-- ==== Sys2Proof/Word.lean ====
section
/-! DEFINITION. The word types of the 2640 and the two small types that every block shares: a port's name, and
four values held one for each port. -/
namespace Sys2Proof

/-- A 32-bit word of a message, and the data value of an array word (R1, R178). -/
abbrev Word := BitVec 32

/-- The 40 positions of a stored word; position n of R1 is bit n. -/
abbrev StoredWord := BitVec 40

/-- The four master ports, "port 0" to "port 3" (00_scope, Names). -/
inductive Port where
  | p0
  | p1
  | p2
  | p3
deriving DecidableEq, Repr

/-- The number of a port, 0 to 3. -/
def Port.num : Port → Nat
  | .p0 => 0
  | .p1 => 1
  | .p2 => 2
  | .p3 => 3

/-- The port a two-bit field names (R178, bits 14 to 15 of word 0). -/
def Port.ofNum : Nat → Port
  | 0 => .p0
  | 1 => .p1
  | 2 => .p2
  | _ => .p3

/-- The ports in ascending order. -/
def Port.all : List Port := [.p0, .p1, .p2, .p3]

/-- One value for each of the four ports. -/
structure PerPort (α : Type) where
  p0 : α
  p1 : α
  p2 : α
  p3 : α
deriving DecidableEq, Repr

/-- The value held for a port. -/
def PerPort.get {α : Type} (v : PerPort α) : Port → α
  | .p0 => v.p0
  | .p1 => v.p1
  | .p2 => v.p2
  | .p3 => v.p3

/-- Replace the value held for one port. -/
def PerPort.set {α : Type} (v : PerPort α) (p : Port) (a : α) : PerPort α :=
  match p with
  | .p0 => { v with p0 := a }
  | .p1 => { v with p1 := a }
  | .p2 => { v with p2 := a }
  | .p3 => { v with p3 := a }

/-- The four values a rule gives, one port at a time. -/
def PerPort.ofFn {α : Type} (f : Port → α) : PerPort α := ⟨f .p0, f .p1, f .p2, f .p3⟩

/-- The same value for every port. -/
def PerPort.all {α : Type} (a : α) : PerPort α := ⟨a, a, a, a⟩

/-- A set of ports: the read set, the write set, a recipient set, the levels of four pins. -/
abbrev PortSet := PerPort Bool

end Sys2Proof
end

