-- ==== Sys2Proof/Config.lean ====
section
/-! DEFINITION. What the part fixes once for every session (capacities, identity, defaults) and the one value that
the spec leaves open, as a constant with no body. -/
namespace Sys2Proof.Config

/-- Words in a page: "A page is 4096 consecutive words" (00_scope, Pages). -/
abbrev pageWords : Nat := 4096

/-- Credits of a port, and so the most requests outstanding (R19). -/
abbrev credits : Nat := 8

/-- Entries the offer list holds (R71). -/
abbrev offerRoom : Nat := 8

/-- Reservations one port may hold (R83). -/
abbrev reservationsPerPort : Nat := 2

/-- Records the notice log holds (R154). -/
abbrev logRoom : Nat := 16

/-- The owed refresh count does not rise above this (R131). -/
abbrev owedLimit : Nat := 8

/-- From this owed count refresh is urgent (R133). -/
abbrev urgentOwed : Nat := 6

/-- The streak count at which step 3 of the grant order is passed over (R107). -/
abbrev streakLimit : Nat := 8

/-- The clear-share count at which step 2 of the grant order stands (R107). -/
abbrev shareLimit : Nat := 16

/-- The VENDOR CODE word (R175). -/
def vendorCode : Word := 0x1D4E#32

/-- The PART CODE word (R175). -/
def partCode : Word := 2640#32

/-- The REVISION word (R175). -/
def revision : Word := 1#32

/-- The largest word array the part can drive, 4 Mi words (R170). -/
abbrev largestSize : Nat := 4194304

/-- The most pages a configured array has (R170). -/
abbrev largestPageCount : Nat := 1024

/-- What a word of the array that no completed write has changed reads as: 40 zero bits, the word the INIT clear
writes (R2, R15). DESIGN CHOICE for the time before that clear (log entry 4). -/
def unwrittenWord : StoredWord := 0#40

/-- FREE VALUE. The 40 bits a word is left holding when cold reset abandons its write: "The word at that address
may then hold any 40 bits until the INIT clear rewrites it" (R3, R15, R128). It has no body, so nothing can
evaluate it; it is applied to the draw counter of State (log entry 6). -/
opaque abandonedWord : Nat → StoredWord

end Sys2Proof.Config
end

