-- ==== Sys2Proof/Syntax.lean ====
section
/-! DEFINITION. The commands: one constructor for each of the 42 rows of spec/opcode_table.json. Every row is one
whole step of the part, an event at a pin, at a port's channels, at the arbiter, at the sequencer, at a timer or at
the block that owns a request. The operands are what the event itself brings; what a request carries is in the
request message, which the port holds. -/
namespace Sys2Proof

/-- The block in whose step a notice was asked for. The notice log takes the requests of one block in the order in
which that block handed them over (R157); between two of them it may take another block's. The offer list
belongs to the page map, and the reports of a completion are handed over by the sequencer's one step (R124). -/
inductive Asker where
  | sequencer
  | pageMap
  | refreshController
  | port (p : Port)
  | controlBlock
deriving DecidableEq, Repr

/-- One constructor per row of the opcode table, in the table's order. -/
inductive Instr where
  /-- NRST_FALLS (R17): the NRST pin falls. -/
  | nrstFalls
  /-- NRST_RISES (R17): the NRST pin rises, with the levels of the MSIZE and PEN straps at that moment. -/
  | nrstRises (msize : BitVec 2) (pen : PortSet)
  /-- PRST_FALLS (R32): the PRST pin of a port falls. -/
  | prstFalls (p : Port)
  /-- PRST_RISES (R35): the PRST pin of a port rises. -/
  | prstRises (p : Port)
  /-- LINK_UP_DELIVERED (R20): the master is ready and the link-up indication leaves. -/
  | linkUpDelivered (p : Port)
  /-- REQUEST_ARRIVES (R21): a message of three words arrives on a request channel. -/
  | requestArrives (p : Port) (w0 w1 w2 : Word)
  /-- RESPONSE_DELIVERED (R31): the master is ready and the head response leaves. -/
  | responseDelivered (p : Port)
  /-- READ (R46): the arbiter grants a port's READ. -/
  | read (p : Port)
  /-- WRITE (R115): the arbiter grants a port's WRITE. -/
  | write (p : Port)
  /-- MERGE_WRITE (R120): the arbiter grants a port's MERGE-WRITE. -/
  | mergeWrite (p : Port)
  /-- LOCKED_READ (R90): the arbiter grants a port's LOCKED-READ. -/
  | lockedRead (p : Port)
  /-- COND_WRITE (R92): the arbiter grants a port's COND-WRITE. -/
  | condWrite (p : Port)
  /-- REFRESH_GRANT (R133): the arbiter grants the refresh controller. -/
  | refreshGrant
  /-- CLEAR_GRANT (R142): the arbiter grants the clear engine. -/
  | clearGrant
  /-- SCRUB_GRANT (R148): the arbiter grants the scrub engine. -/
  | scrubGrant
  /-- READING_ENDS (R114): the read phase ends. `flips` names the positions of the stored word that have changed
  in the DRAM, without a write of the 2640, since the word was last written or read (R11; log entry 8). -/
  | readingEnds (flips : StoredWord)
  /-- READ_OP_COMPLETES (R117). -/
  | readOpCompletes
  /-- STORE_COMPLETES (R118). -/
  | storeCompletes
  /-- CHECKED_STORE_COMPLETES (R119). -/
  | checkedStoreCompletes
  /-- MERGE_COMPLETES (R120). -/
  | mergeCompletes
  /-- REFRESH_COMPLETES (R134). -/
  | refreshCompletes
  /-- CLEAR_COMPLETES (R143). -/
  | clearCompletes
  /-- SCRUB_COMPLETES (R149). -/
  | scrubCompletes
  /-- REFRESH_INTERVAL_RUNS_OUT (R131). -/
  | refreshIntervalRunsOut
  /-- SCRUB_INTERVAL_RUNS_OUT (R147). -/
  | scrubIntervalRunsOut
  /-- RESERVATION_LIFETIME_RUNS_OUT (R98): the timer of the reservation of the named word runs out. -/
  | reservationLifetimeRunsOut (addr : Nat)
  /-- OFFER_LIFETIME_RUNS_OUT (R76): the timer of the offer of the named page runs out. -/
  | offerLifetimeRunsOut (page : Nat)
  /-- UNLOCK (R97): the reservation table takes a port's UNLOCK. -/
  | unlock (p : Port)
  /-- CLAIM (R62): the page map takes a port's CLAIM. -/
  | claim (p : Port)
  /-- GRANT (R65): the page map takes a port's GRANT. -/
  | grant (p : Port)
  /-- REVOKE (R67): the page map takes a port's REVOKE. -/
  | revoke (p : Port)
  /-- OFFER (R72): the page map takes a port's OFFER. -/
  | offer (p : Port)
  /-- ACCEPT (R74): the page map takes a port's ACCEPT. -/
  | accept (p : Port)
  /-- WITHDRAW (R75): the page map takes a port's WITHDRAW. -/
  | withdraw (p : Port)
  /-- RELEASE (R68): the page map takes a port's RELEASE. -/
  | release (p : Port)
  /-- PAGE_QUERY (R54): the page map takes a port's PAGE-QUERY. -/
  | pageQuery (p : Port)
  /-- FETCH_NOTICE (R160): the notice log takes a port's FETCH-NOTICE. -/
  | fetchNotice (p : Port)
  /-- CTL_READ (R174): the control block takes a port's CTL-READ. -/
  | ctlRead (p : Port)
  /-- CTL_WRITE (R173): the control block takes a port's CTL-WRITE. -/
  | ctlWrite (p : Port)
  /-- LOST_COUNT (R165): a port's CTL-WRITE of the LOST COUNT word is taken. -/
  | lostCount (p : Port)
  /-- START (R168): the control block takes a port's START. -/
  | start (p : Port)
  /-- NOTICE_RECORD_CREATE (R156): the notice log takes the oldest request a block has handed it. -/
  | noticeRecordCreate (asker : Asker)
deriving DecidableEq, Repr

end Sys2Proof
end

