-- ==== Sys2Proof/WellFormed.lean ====
section
/-! DEFINITION. Which commands can be named at all: an operand that names a word or a page lies in the largest
array the part can drive (R170). -/
namespace Sys2Proof

/-- A word address an entry of the reservation table can hold at some array size (R83, R170). -/
def wordInRange (addr : Nat) : Bool := decide (addr < Config.largestSize)

/-- A page number an entry of the offer list can hold at some array size (R71, R170). -/
def pageInRange (page : Nat) : Bool := decide (page < Config.largestPageCount)

/-- The operands of a command lie in the ranges the spec gives the things they name. Every other operand's type
admits exactly the values the spec gives. -/
def Instr.wellFormed : Instr → Bool
  | .nrstFalls => true
  | .nrstRises _ _ => true
  | .prstFalls _ => true
  | .prstRises _ => true
  | .linkUpDelivered _ => true
  | .requestArrives _ _ _ _ => true
  | .responseDelivered _ => true
  | .read _ => true
  | .write _ => true
  | .mergeWrite _ => true
  | .lockedRead _ => true
  | .condWrite _ => true
  | .refreshGrant => true
  | .clearGrant => true
  | .scrubGrant => true
  | .readingEnds _ => true
  | .readOpCompletes => true
  | .storeCompletes => true
  | .checkedStoreCompletes => true
  | .mergeCompletes => true
  | .refreshCompletes => true
  | .clearCompletes => true
  | .scrubCompletes => true
  | .refreshIntervalRunsOut => true
  | .scrubIntervalRunsOut => true
  | .reservationLifetimeRunsOut addr => wordInRange addr
  | .offerLifetimeRunsOut page => pageInRange page
  | .unlock _ => true
  | .claim _ => true
  | .grant _ => true
  | .revoke _ => true
  | .offer _ => true
  | .accept _ => true
  | .withdraw _ => true
  | .release _ => true
  | .pageQuery _ => true
  | .fetchNotice _ => true
  | .ctlRead _ => true
  | .ctlWrite _ => true
  | .lostCount _ => true
  | .start _ => true
  | .noticeRecordCreate _ => true

/-- The word address a command names as its operand: the word whose reservation runs out (R98). -/
def Instr.namedWord : Instr → Option Nat
  | .reservationLifetimeRunsOut addr => some addr
  | _ => none

/-- The page number a command names as its operand: the page whose offer runs out (R76). -/
def Instr.namedPage : Instr → Option Nat
  | .offerLifetimeRunsOut page => some page
  | _ => none

end Sys2Proof
end

