-- ==== Sys2Proof/Decode.lean ====
section
/-! DEFINITION. Commands spelled by a table word. No row of spec/opcode_table.json gives bits: the rows are events,
not encoded words. The one bit layout by which the outside speaks to the part is the request message of R178, and
its fields are read in Machine/Operands.lean. -/
namespace Sys2Proof

/-- The command a word spells by the opcode table's bits. No row gives bits, so no word spells one (log entry 19). -/
def decodeTableWord (_nbits _w : Nat) : Option Instr := none

end Sys2Proof
end

