-- ==== Sys2Proof/Machine/State.lean ====
section
/-! DEFINITION. The state of the 2640 as plain data, block by block, with every item the spec gives it, and the
part as it stands while cold reset is held. -/
namespace Sys2Proof.Machine

/-! ### The small types of the spec's tables -/

/-- Device state (R166). -/
inductive DeviceState where
  | init
  | setup
  | run
deriving DecidableEq, Repr

/-- Port state (R16). -/
inductive PortState where
  | absent
  | reset
  | active
deriving DecidableEq, Repr

/-- Service phase of a current request (R24). The phase CHECKING is entered and left within one step, so no state
between two steps shows it. -/
inductive ServicePhase where
  | routed
  | granted
deriving DecidableEq, Repr

/-- The 18 request kinds (R25, R178). -/
inductive RequestKind where
  | read
  | write
  | mergeWrite
  | lockedRead
  | condWrite
  | unlock
  | claim
  | grant
  | revoke
  | offer
  | accept
  | withdraw
  | release
  | pageQuery
  | fetchNotice
  | ctlRead
  | ctlWrite
  | start
deriving DecidableEq, Repr

/-- Guard action of a request (R12). -/
inductive GuardAction where
  | keep
  | set
  | clear
deriving DecidableEq, Repr

/-- Guard mode of a page (R12, R13). -/
inductive GuardMode where
  | off
  | on
deriving DecidableEq, Repr

/-- The status vocabulary (R36, R179). -/
inductive Status where
  | ok
  | range
  | notRunning
  | badRequest
  | notReady
  | frozen
  | badValue
  | noAccess
  | guardOff
  | notOwner
  | guarded
  | dataLost
  | lapsed
  | noRoom
  | taken
  | clearing
  | pending
  | noOffer
  | badTarget
  | noNotice
deriving DecidableEq, Repr

/-- Page state (R41). -/
inductive PageState where
  | free
  | held
  | offered
  | clearing
deriving DecidableEq, Repr

/-- What kind of position was bad in a SINGLE word (R6). -/
inductive Subclass where
  | data
  | guard
  | check
deriving DecidableEq, Repr

/-- The class the decoder assigns (R5); a SINGLE word has its subclass and its bad position (R6, R7). -/
inductive WordClass where
  | clean
  | single (sub : Subclass) (bad : Nat)
  | double
  | multiple
deriving DecidableEq, Repr

/-- A data value with its guard value. -/
structure Guarded where
  data : Word
  guard : Bool
deriving DecidableEq, Repr

/-- A decode result (R7). The corrected data and guard are present for CLEAN and SINGLE. -/
structure DecodeResult where
  cls : WordClass
  syndrome : BitVec 6
  corrected : Option Guarded
deriving DecidableEq, Repr

/-- A timer: stopped, or running with the value it was last started with (00_scope, Conventions; R129). How much of
that interval is left is not state of the model (log entry 11). -/
inductive Timer where
  | stopped
  | running (loaded : Nat)
deriving DecidableEq, Repr

/-! ### Messages -/

/-- A request message as it came: three 32-bit words (R178). Its fields are read in Machine/Operands.lean. -/
structure Request where
  w0 : Word
  w1 : Word
  w2 : Word
deriving DecidableEq, Repr

/-- Who found a fault in a word (R153). -/
inductive Finder where
  | port (p : Port)
  | scrub
deriving DecidableEq, Repr

/-- The notice kinds (R153). -/
inductive NoticeKind where
  | corrected
  | uncorrectable
  | weakPage
  | refreshOverrun
  | portOverrun
  | offerMade
  | offerLapsed
  | pageAccepted
  | ready
  | started
deriving DecidableEq, Repr

/-- The class field of a notice record (R153). -/
inductive NoticeClass where
  | singleData
  | singleGuard
  | singleCheck
  | double
  | multiple
deriving DecidableEq, Repr

/-- The fields of a notice record other than its recipient set: what FETCH-NOTICE returns (R153, R160). A field
the kind does not carry is absent. -/
structure NoticeImage where
  sequence : BitVec 16
  kind : NoticeKind
  addr : Option Nat
  page : Option Nat
  syndrome : Option (BitVec 6)
  cls : Option NoticeClass
  foundBy : Option Finder
  other : Option Port
deriving DecidableEq, Repr

/-- The page entry image (R54). -/
structure PageImage where
  page : Nat
  state : PageState
  owner : Option Port
  readSet : PortSet
  writeSet : PortSet
  guardMode : GuardMode
  offerTarget : Option Port
  corrected : Nat
  weak : Bool
deriving DecidableEq, Repr

/-- The two images a response may carry (R37). -/
inductive Image where
  | page (i : PageImage)
  | notice (i : NoticeImage)
deriving DecidableEq, Repr

/-- A response (R36, R37). Its four words are formed in Machine/Flags.lean (R179). -/
structure Response where
  tag : BitVec 8
  status : Status
  corrected : Bool
  data : Option Word
  guard : Option Bool
  image : Option Image
deriving DecidableEq, Repr

/-- A message on a response channel: four 32-bit words (R179). -/
structure Message where
  w0 : Word
  w1 : Word
  w2 : Word
  w3 : Word
deriving DecidableEq, Repr

/-! ### The blocks -/

/-- The current request of a port (R24). -/
structure CurrentRequest where
  msg : Request
  phase : ServicePhase
deriving DecidableEq, Repr

/-- A master port (the table before R16). `channel` is the message the port last sent on its response channel since
it entered ACTIVE, the model's own record of what the pins carried (log entry 15). -/
structure PortRecord where
  state : PortState
  queue : List Request
  current : Option CurrentRequest
  responses : List Response
  outstanding : Nat
  orphan : Bool
  linkUp : Bool
  channel : Option Message
deriving DecidableEq, Repr

/-- A page entry (R40). -/
structure PageEntry where
  state : PageState
  owner : Option Port
  readSet : PortSet
  writeSet : PortSet
  guardMode : GuardMode
  corrected : Nat
  weak : Bool
deriving DecidableEq, Repr

/-- An offer entry (R71). -/
structure OfferEntry where
  page : Nat
  fromPort : Port
  toPort : Port
  timer : Timer
deriving DecidableEq, Repr

/-- The page map: entry n is the entry of page n (R40), and the offer list in order of creation (R71). -/
structure PageMap where
  entries : List PageEntry
  offers : List OfferEntry
deriving DecidableEq, Repr

/-- A reservation entry (R83). -/
structure Reservation where
  port : Port
  addr : Nat
  timer : Timer
deriving DecidableEq, Repr

/-- The reservation table: entries in order of creation (R83) and a parking mark for each port (R84). -/
structure ReservationTable where
  entries : List Reservation
  parking : PerPort (Option Nat)
deriving DecidableEq, Repr

/-- The arbiter (R104). -/
structure Arbiter where
  lastPriority : Port
  lastNormal : Port
  streak : Nat
  clearShare : Nat
deriving DecidableEq, Repr

/-- Operation kinds of the memory sequencer (R114). -/
inductive OpKind where
  | read
  | store
  | checkedStore
  | merge
  | refresh
  | scrub
  | clear
deriving DecidableEq, Repr

/-- Phases of an operation (R114). -/
inductive OpPhase where
  | reading
  | writing
  | refreshing
deriving DecidableEq, Repr

/-- What an operation carries when it serves a port: the request (its kind, data, guard action and byte mask are
fields of the message) and the two facts fixed at grant (R47, R114). -/
structure PortTerms where
  port : Port
  msg : Request
  kind : RequestKind
  guardMode : GuardMode
  isOwner : Bool
deriving DecidableEq, Repr

/-- Whom an operation serves (R114). -/
inductive Served where
  | port (t : PortTerms)
  | refreshController
  | clearEngine
  | scrubEngine
deriving DecidableEq, Repr

/-- What an operation names: a word, or for REFRESH a row (R114). -/
inductive OpTarget where
  | word (addr : Nat)
  | row (r : BitVec 13)
deriving DecidableEq, Repr

/-- The operation in flight (R114). `decoded` is present from the end of READING; `settled` is the data and guard
to be written, present when the operation writes. -/
structure Operation where
  kind : OpKind
  served : Served
  target : OpTarget
  phase : OpPhase
  decoded : Option DecodeResult
  settled : Option Guarded
deriving DecidableEq, Repr

/-- The refresh controller (R129). The loaded interval is the value the running timer was last started with. -/
structure RefreshController where
  timer : Timer
  owed : Nat
  row : BitVec 13
deriving DecidableEq, Repr

/-- The clear engine (R140). -/
structure ClearEngine where
  queue : List Nat
  progress : Nat
deriving DecidableEq, Repr

/-- The scrub engine (R146). -/
structure ScrubEngine where
  position : Nat
  timer : Timer
  pending : Bool
  passes : BitVec 16
deriving DecidableEq, Repr

/-- A notice record: its fields and the ports that have yet to fetch it (R153). -/
structure NoticeRecord where
  image : NoticeImage
  recipients : PortSet
deriving DecidableEq, Repr

/-- What the page map hands over with a request about a page: the page's state, owner and read set as it held them
in that step (R53, R155). -/
structure PageInfo where
  state : PageState
  owner : Option Port
  readSet : PortSet
deriving DecidableEq, Repr

/-- A request to the notice log to create a record: the kind with the fields it carries, and what the recipient set
is formed from (R153, R155). -/
inductive NoticeRequest where
  | corrected (addr page : Nat) (syndrome : BitVec 6) (sub : Subclass) (foundBy : Finder) (info : PageInfo)
  | uncorrectable (addr page : Nat) (syndrome : BitVec 6) (double : Bool) (foundBy : Finder) (info : PageInfo)
  | weakPage (page : Nat) (info : PageInfo)
  | refreshOverrun
  | portOverrun (p : Port)
  | offerMade (page : Nat) (fromPort toPort : Port)
  | offerExpired (page : Nat) (fromPort toPort : Port)
  | offerCutByReset (page : Nat) (resetPort otherParty : Port)
  | pageAccepted (page : Nat) (formerOwner newOwner : Port)
  | ready
  | started (starter : Port)
deriving DecidableEq, Repr

/-- The notice log (R154) with the requests handed to it that it has not taken yet (R155, R159), oldest first, and
the notice lines it drives (R162). -/
structure NoticeLog where
  records : List NoticeRecord
  sequence : BitVec 16
  lost : Nat
  lines : PortSet
  asked : List NoticeRequest
deriving DecidableEq, Repr

/-- The eleven configuration items (R172); `priority` holds PORT CLASS 0 to 3, true for priority. -/
structure ConfigItems where
  refreshInterval : Nat
  scrubInterval : Nat
  reservationLifetime : Nat
  offerLifetime : Nat
  writeBack : Bool
  logging : Bool
  weakThreshold : Nat
  priority : PortSet
deriving DecidableEq, Repr

/-- The latched straps (R170). -/
structure Straps where
  msize : BitVec 2
  pen : PortSet
deriving DecidableEq, Repr

/-- The control block (R166, R170, R172). The identity of the part is fixed, in Config. -/
structure ControlBlock where
  device : DeviceState
  items : ConfigItems
  straps : Straps
deriving DecidableEq, Repr

/-- The levels of the input pins that the part follows, true for high (00_scope, Pins). The NOTE lines stand in the
notice log. -/
structure Pins where
  nrst : Bool
  prst : PortSet
deriving DecidableEq, Repr

/-- The array (R1): stored words by word address, addresses rising, no entry equal to what an unlisted address
reads as. -/
abbrev Memory := List (Nat × StoredWord)

/-- The whole machine. `freeDraws` counts the free values drawn (log entry 7) and `pending` is the queue of waiting
commands; both are the model's own. -/
structure State where
  pins : Pins
  ports : PerPort PortRecord
  pageMap : PageMap
  table : ReservationTable
  arbiter : Arbiter
  sequencer : Option Operation
  refresh : RefreshController
  clear : ClearEngine
  scrub : ScrubEngine
  log : NoticeLog
  control : ControlBlock
  array : Memory
  freeDraws : Nat
  pending : List Instr
deriving DecidableEq, Repr

/-! ### The ways a step can stop -/

/-- Faults. The spec names no event at which the part stops: faults of the array are decode classes (R5), reported
by statuses and notices. So there is none, and no meaning answers one. -/
inductive Fault where
deriving DecidableEq, Repr

/-- Refusals. -/
inductive Refusal where
  /-- A command that has no meaning yet; raised only by the dispatch. Safe. -/
  | notModelled (mnemonic : String)
deriving DecidableEq, Repr

/-! ### Reset values -/

/-- A port in RESET (R17, R32). -/
def PortRecord.inReset : PortRecord :=
  { state := .reset, queue := [], current := none, responses := [], outstanding := 0, orphan := false,
    linkUp := false, channel := none }

/-- The configuration items at their defaults (R172). -/
def ConfigItems.defaults : ConfigItems :=
  { refreshInterval := 7, scrubInterval := 200, reservationLifetime := 500, offerLifetime := 2000,
    writeBack := true, logging := true, weakThreshold := 16, priority := .all false }

/-- The arbiter after cold reset (R104). -/
def Arbiter.afterColdReset : Arbiter := { lastPriority := .p3, lastNormal := .p3, streak := 0, clearShare := 0 }

/-- The refresh controller while NRST is low (R139). -/
def RefreshController.inColdReset : RefreshController := { timer := .stopped, owed := 0, row := 0#13 }

/-- The clear engine with nothing to clear: no page is CLEARING before the page map is rebuilt (R56, R140). -/
def ClearEngine.empty : ClearEngine := { queue := [], progress := 0 }

/-- The scrub engine after cold reset (R146, R152). -/
def ScrubEngine.afterColdReset : ScrubEngine := { position := 0, timer := .stopped, pending := false, passes := 0#16 }

/-- The notice log after cold reset (R154, R164). -/
def NoticeLog.afterColdReset : NoticeLog :=
  { records := [], sequence := 0#16, lost := 0, lines := .all false, asked := [] }

/-- The 2640 while cold reset is held: NRST is low, every port is in RESET and every block stands at its reset
values (R17, R71, R103, R104, R128, R139, R152, R164, R166, R172). The straps are latched, the page map is built
and the clear queue is filled when NRST rises (R56, R145, R170), which is the command NRST_RISES (log entries 1 to
4). -/
def State.reset : State :=
  { pins := { nrst := false, prst := .all true },
    ports := .all .inReset,
    pageMap := { entries := [], offers := [] },
    table := { entries := [], parking := .all none },
    arbiter := .afterColdReset,
    sequencer := none,
    refresh := .inColdReset,
    clear := .empty,
    scrub := .afterColdReset,
    log := .afterColdReset,
    control := { device := .init, items := .defaults, straps := { msize := 0#2, pen := .all false } },
    array := [],
    freeDraws := 0,
    pending := [] }

end Sys2Proof.Machine
end

