-- ==== Sys2Proof/Machine/Code.lean ====
section
/-! DEFINITION. The stored word, its encoder and its decoder (R1 to R10). Position n of the stored word is bit n. -/
namespace Sys2Proof.Machine

/-! ### Encoding -/

/-- The data bits and the guard bit at their positions, every other position 0 (R1). From the highest position
down: G at 39, D31 to D26 at 38 to 33, D25 to D11 at 31 to 17, D10 to D4 at 15 to 9, D3 to D1 at 7 to 5, D0 at 3. -/
def placeData (g : Guarded) : StoredWord :=
  BitVec.ofBool g.guard ++ g.data.extractLsb' 26 6 ++ 0#1 ++ g.data.extractLsb' 11 15 ++ 0#1 ++
    g.data.extractLsb' 4 7 ++ 0#1 ++ g.data.extractLsb' 1 3 ++ 0#1 ++ g.data.extractLsb' 0 1 ++ 0#3

/-- The exclusive-or of the positions of a stored word that a rule selects: true when their parity is odd. -/
def parityOf (select : Nat → Bool) (w : StoredWord) : Bool :=
  (List.range 40).foldl (fun acc n => acc ^^ (select n && w.getLsbD n)) false

/-- The positions that check bit k covers: from 1 to 39, those whose number has bit k set (R2). Position 0 has no bit
set, so no check bit covers it. -/
def covers (k : Nat) (n : Nat) : Bool := n.testBit k

/-- The check bit Ck stands at position 2 to the power k (R1). -/
def checkBit (k : Nat) (w : StoredWord) : StoredWord :=
  (BitVec.ofBool (parityOf (covers k) w)).setWidth 40 <<< (2 ^ k)

/-- The six check bits of a word whose check positions are 0, each making the parity of the positions it covers even
(R2). -/
def checkBits (w : StoredWord) : StoredWord :=
  checkBit 0 w ||| checkBit 1 w ||| checkBit 2 w ||| checkBit 3 w ||| checkBit 4 w ||| checkBit 5 w

/-- The overall parity bit P at position 0, making the parity of all 40 positions even (R2). -/
def overallBit (w : StoredWord) : StoredWord := (BitVec.ofBool (parityOf (fun _ => true) w)).setWidth 40

/-- The encoder (R2): data and guard, then the check bits, then P. -/
def encode (g : Guarded) : StoredWord :=
  let placed := placeData g
  let checked := placed ||| checkBits placed
  checked ||| overallBit checked

/-! ### Decoding -/

/-- The data value and guard value a stored word holds at their positions (R1). -/
def extractData (w : StoredWord) : Guarded :=
  { data := w.extractLsb' 33 6 ++ w.extractLsb' 17 15 ++ w.extractLsb' 9 7 ++ w.extractLsb' 5 3 ++ w.extractLsb' 3 1,
    guard := w.getLsbD 39 }

/-- The syndrome (R4): bit k is the parity of the positions check bit k covers. -/
def syndromeOf (w : StoredWord) : BitVec 6 :=
  BitVec.ofBool (parityOf (covers 5) w) ++ BitVec.ofBool (parityOf (covers 4) w) ++
    BitVec.ofBool (parityOf (covers 3) w) ++ BitVec.ofBool (parityOf (covers 2) w) ++
    BitVec.ofBool (parityOf (covers 1) w) ++ BitVec.ofBool (parityOf (covers 0) w)

/-- The overall parity check is bad when the parity of all 40 positions is odd (R4). -/
def overallBad (w : StoredWord) : Bool := parityOf (fun _ => true) w

/-- The subclass of a SINGLE word by its bad position (R6). -/
def subclassOf (bad : Nat) : Subclass :=
  if bad = 39 then .guard
  else if bad = 0 || bad = 1 || bad = 2 || bad = 4 || bad = 8 || bad = 16 || bad = 32 then .check
  else .data

/-- The class of a word by its syndrome and its overall parity check alone (R5, R9). -/
def classify (syndrome : Nat) (bad : Bool) : WordClass :=
  if bad then
    if syndrome ≤ 39 then .single (subclassOf syndrome) syndrome else .multiple
  else
    if syndrome = 0 then .clean else .double

/-- A stored word with one position inverted. -/
def invertPosition (w : StoredWord) (n : Nat) : StoredWord := w ^^^ (1#40 <<< n)

/-- The decode result of a word of a class with a syndrome: the corrected data and guard are those stored for CLEAN,
those of the corrected word for SINGLE, and absent for DOUBLE and MULTIPLE (R7, R8). -/
def resultOf (cls : WordClass) (syndrome : BitVec 6) (w : StoredWord) : DecodeResult :=
  match cls with
  | .clean => { cls := .clean, syndrome := syndrome, corrected := some (extractData w) }
  | .single sub bad =>
    { cls := .single sub bad, syndrome := syndrome, corrected := some (extractData (invertPosition w bad)) }
  | .double => { cls := .double, syndrome := syndrome, corrected := none }
  | .multiple => { cls := .multiple, syndrome := syndrome, corrected := none }

/-- The decoder (R4 to R9). -/
def decode (w : StoredWord) : DecodeResult :=
  resultOf (classify (syndromeOf w).toNat (overallBad w)) (syndromeOf w) w

/-- The word read was SINGLE, of any subclass. -/
def DecodeResult.isSingle (d : DecodeResult) : Bool :=
  match d.cls with
  | .single _ _ => true
  | .clean => false
  | .double => false
  | .multiple => false

/-- The word read was DOUBLE or MULTIPLE (R5). -/
def DecodeResult.uncorrectable (d : DecodeResult) : Bool :=
  match d.cls with
  | .single _ _ => false
  | .clean => false
  | .double => true
  | .multiple => true

/-- The merged data (R120): byte k from the request's data where bit k of the mask is 1, else from the corrected
data. Byte k of a data value is its bits 8k to 8k + 7 (R1). -/
def mergeBytes (mask : BitVec 4) (new old : Word) : Word :=
  (if mask.getLsbD 3 then new else old).extractLsb' 24 8 ++ (if mask.getLsbD 2 then new else old).extractLsb' 16 8 ++
    (if mask.getLsbD 1 then new else old).extractLsb' 8 8 ++ (if mask.getLsbD 0 then new else old).extractLsb' 0 8

end Sys2Proof.Machine
end

