-- ==== Sys2Proof/Machine/Flags.lean ====
section
/-! DEFINITION. The words the outside reads: codes, presence bits and images of the response channel (R179, R180),
and the layouts of the control words (R181). -/
namespace Sys2Proof.Machine

/-- A field of a word: a number placed at a bit. -/
def field (value : Nat) (bit : Nat) : Word := BitVec.ofNat 32 value <<< bit

/-- One bit of a word. -/
def flag (b : Bool) (bit : Nat) : Word := field b.toNat bit

/-- The status codes (R179). -/
def Status.code : Status → Nat
  | .ok => 0
  | .range => 1
  | .notRunning => 2
  | .badRequest => 3
  | .notReady => 4
  | .frozen => 5
  | .badValue => 6
  | .noAccess => 7
  | .guardOff => 8
  | .notOwner => 9
  | .guarded => 10
  | .dataLost => 11
  | .lapsed => 12
  | .noRoom => 13
  | .taken => 14
  | .clearing => 15
  | .pending => 16
  | .noOffer => 17
  | .badTarget => 18
  | .noNotice => 19

/-- The page state codes (R180). -/
def PageState.code : PageState → Nat
  | .free => 0
  | .held => 1
  | .offered => 2
  | .clearing => 3

/-- The guard mode bit: 0 OFF, 1 ON (R180). -/
def GuardMode.isOn : GuardMode → Bool
  | .off => false
  | .on => true

/-- The notice kind codes (R180). -/
def NoticeKind.code : NoticeKind → Nat
  | .corrected => 1
  | .uncorrectable => 2
  | .weakPage => 3
  | .refreshOverrun => 4
  | .portOverrun => 5
  | .offerMade => 6
  | .offerLapsed => 7
  | .pageAccepted => 8
  | .ready => 9
  | .started => 10

/-- The class codes of a notice record image (R180). -/
def NoticeClass.code : NoticeClass → Nat
  | .singleData => 0
  | .singleGuard => 1
  | .singleCheck => 2
  | .double => 3
  | .multiple => 4

/-- The found-by codes of a notice record image (R180). -/
def Finder.code : Finder → Nat
  | .port p => p.num
  | .scrub => 4

/-- A set of ports as bits from `bit` on: bit + n for port n. -/
def setBits (s : PortSet) (bit : Nat) : Word :=
  flag s.p0 bit ||| flag s.p1 (bit + 1) ||| flag s.p2 (bit + 2) ||| flag s.p3 (bit + 3)

/-- An absent number is sent as 0 (R179, R180). -/
def orZero (n : Option Nat) : Nat := n.getD 0

/-- Word 2 of a page entry image (R180). That bits 28 to 31, which no field names, are 0 is the model's choice (log entry
26). -/
def PageImage.word2 (i : PageImage) : Word :=
  field (i.page % 1024) 0 ||| field i.state.code 10 ||| flag i.owner.isSome 12 ||| field (orZero (i.owner.map Port.num)) 13 |||
    flag i.guardMode.isOn 15 ||| setBits i.readSet 16 ||| setBits i.writeSet 20 ||| flag i.offerTarget.isSome 24 |||
    field (orZero (i.offerTarget.map Port.num)) 25 ||| flag i.weak 27

/-- Word 3 of a page entry image (R180). That bits 8 to 31, which no field names, are 0 is the model's choice (log entry
26). -/
def PageImage.word3 (i : PageImage) : Word := field (i.corrected % 256) 0

/-- Word 2 of a notice record image (R180): the word address, or for the offer kinds the other port, in the low
bits, and the page above. A record carries one of the two or neither (R153). -/
def NoticeImage.word2 (i : NoticeImage) : Word :=
  field (orZero i.addr % 4194304) 0 ||| field (orZero (i.other.map Port.num)) 0 ||| field (orZero i.page % 1024) 22

/-- Word 3 of a notice record image (R180). -/
def NoticeImage.word3 (i : NoticeImage) : Word :=
  i.sequence.setWidth 32 ||| field i.kind.code 16 ||| field (orZero (i.syndrome.map BitVec.toNat)) 20 |||
    field (orZero (i.cls.map NoticeClass.code)) 26 ||| field (orZero (i.foundBy.map Finder.code)) 29

/-- Word 2 of an image. -/
def Image.word2 : Image → Word
  | .page i => i.word2
  | .notice i => i.word2

/-- Word 3 of an image. -/
def Image.word3 : Image → Word
  | .page i => i.word3
  | .notice i => i.word3

/-- Word 0 of a response: tag, status, corrected flag, presence bits and guard value; message type 0 (R179). That bits
22 to 23 and 28 to 31, which no field names, are 0 is the model's choice (log entry 26). -/
def Response.header (r : Response) : Word :=
  r.tag.setWidth 32 ||| field r.status.code 8 ||| flag r.corrected 13 ||| flag r.data.isSome 14 ||| flag r.guard.isSome 15 |||
    flag (r.guard.getD false) 16 ||| flag r.image.isSome 17

/-- The four words of a response; an absent word is sent as 0 (R179). -/
def Response.message (r : Response) : Message :=
  { w0 := r.header,
    w1 := r.data.getD 0#32,
    w2 := (r.image.map Image.word2).getD 0#32,
    w3 := (r.image.map Image.word3).getD 0#32 }

/-- The link-up indication of a port: message type 1, the port's number, credit count 8, every other field 0
(R20, R179). That bits 22 to 23 and 28 to 31 of word 0, which no field names, are 0 is the model's choice (log entry
26). -/
def linkUpMessage (p : Port) : Message :=
  { w0 := field 1 18 ||| field p.num 20 ||| field Config.credits 24, w1 := 0#32, w2 := 0#32, w3 := 0#32 }

/-! ### Control word layouts (R181) -/

/-- DEVICE STATE codes. -/
def DeviceState.code : DeviceState → Nat
  | .init => 0
  | .setup => 1
  | .run => 2

/-- PORT STATUS codes. -/
def PortState.code : PortState → Nat
  | .absent => 0
  | .reset => 1
  | .active => 2

/-- The STRAPS word: code in bits 0 to 1, PEN level of port n in bit 4 + n. -/
def Straps.word (s : Straps) : Word := s.msize.setWidth 32 ||| setBits s.pen 4

/-- A PORT STATUS word: state, outstanding count and class. -/
def portStatusWord (pr : PortRecord) (priority : Bool) : Word :=
  field pr.state.code 0 ||| field pr.outstanding 4 ||| flag priority 8

/-- The REFRESH STATUS word: owed count and row counter. -/
def RefreshController.word (r : RefreshController) : Word := field r.owed 0 ||| field r.row.toNat 16

/-- The CLEAR STATUS word: queue length and progress. -/
def ClearEngine.word (c : ClearEngine) : Word := field c.queue.length 0 ||| field c.progress 16

/-- A RESERVATION ENTRY word: address, port, occupied; 0 when the place is empty (R177). -/
def reservationWord : Option Reservation → Word
  | none => 0#32
  | some e => field e.addr 0 ||| field e.port.num 24 ||| flag true 31

end Sys2Proof.Machine
end

