-- ==== Sys2Proof/Machine/Operands.lean ====
section
/-! DEFINITION. The fields of a request message (R178) and the groups of request kinds (R25, R26, R29). -/
namespace Sys2Proof.Machine

/-- The kind a code names; codes outside the 18 listed name none (R178). -/
def RequestKind.ofCode : Nat → Option RequestKind
  | 1 => some .read
  | 2 => some .write
  | 3 => some .mergeWrite
  | 4 => some .lockedRead
  | 5 => some .condWrite
  | 6 => some .unlock
  | 8 => some .claim
  | 9 => some .grant
  | 10 => some .revoke
  | 11 => some .offer
  | 12 => some .accept
  | 13 => some .withdraw
  | 14 => some .release
  | 15 => some .pageQuery
  | 16 => some .fetchNotice
  | 20 => some .ctlRead
  | 21 => some .ctlWrite
  | 22 => some .start
  | _ => none

/-- Word 0, bits 0 to 4: kind. -/
def Request.kind (m : Request) : Option RequestKind := RequestKind.ofCode (m.w0.extractLsb' 0 5).toNat

/-- Word 0, bits 5 to 6: guard action; code 3 names none. -/
def Request.guardAction (m : Request) : Option GuardAction :=
  match (m.w0.extractLsb' 5 2).toNat with
  | 0 => some .keep
  | 1 => some .set
  | 2 => some .clear
  | _ => none

/-- Word 0, bits 7 to 10: byte mask, bit k of it enabling byte k. -/
def Request.byteMask (m : Request) : BitVec 4 := m.w0.extractLsb' 7 4

/-- Word 0, bit 11: right, true for WRITE. -/
def Request.rightWrite (m : Request) : Bool := m.w0.getLsbD 11

/-- Word 0, bit 12: clear option, true for with clearing. -/
def Request.clearOption (m : Request) : Bool := m.w0.getLsbD 12

/-- Word 0, bit 13: guard mode. -/
def Request.guardMode (m : Request) : GuardMode := if m.w0.getLsbD 13 then .on else .off

/-- Word 0, bits 14 to 15: target port. -/
def Request.target (m : Request) : Port := Port.ofNum (m.w0.extractLsb' 14 2).toNat

/-- Word 0, bits 16 to 23: tag. -/
def Request.tag (m : Request) : BitVec 8 := m.w0.extractLsb' 16 8

/-- Word 0, bits 24 to 29: control index. -/
def Request.controlIndex (m : Request) : Nat := (m.w0.extractLsb' 24 6).toNat

/-- Word 1 read as a word address by the memory kinds and UNLOCK: the whole 32-bit number. -/
def Request.addr (m : Request) : Nat := m.w1.toNat

/-- Word 1 read as a page number by the page kinds: the whole 32-bit number. -/
def Request.page (m : Request) : Nat := m.w1.toNat

/-- Word 2: data, or control value. -/
def Request.data (m : Request) : Word := m.w2

/-- The memory kinds (R26). -/
def RequestKind.isMemory : RequestKind → Bool
  | .read => true
  | .write => true
  | .mergeWrite => true
  | .lockedRead => true
  | .condWrite => true
  | .unlock => false
  | .claim => false
  | .grant => false
  | .revoke => false
  | .offer => false
  | .accept => false
  | .withdraw => false
  | .release => false
  | .pageQuery => false
  | .fetchNotice => false
  | .ctlRead => false
  | .ctlWrite => false
  | .start => false

/-- The page kinds (R26). -/
def RequestKind.isPage : RequestKind → Bool
  | .claim => true
  | .grant => true
  | .revoke => true
  | .offer => true
  | .accept => true
  | .withdraw => true
  | .release => true
  | .pageQuery => true
  | .read => false
  | .write => false
  | .mergeWrite => false
  | .lockedRead => false
  | .condWrite => false
  | .unlock => false
  | .fetchNotice => false
  | .ctlRead => false
  | .ctlWrite => false
  | .start => false

/-- The kinds that use the guard action: READ, WRITE, LOCKED-READ and COND-WRITE (R25). -/
def RequestKind.usesGuardAction : RequestKind → Bool
  | .read => true
  | .write => true
  | .lockedRead => true
  | .condWrite => true
  | .mergeWrite => false
  | .unlock => false
  | .claim => false
  | .grant => false
  | .revoke => false
  | .offer => false
  | .accept => false
  | .withdraw => false
  | .release => false
  | .pageQuery => false
  | .fetchNotice => false
  | .ctlRead => false
  | .ctlWrite => false
  | .start => false

/-- The guard action the blocks judge a request by: the one it names, and KEEP for a kind that uses none (R29).
A kind that uses it and names none was answered BAD-REQUEST before any block judged it (R25). -/
def Request.judgedAction (m : Request) (k : RequestKind) : GuardAction :=
  if k.usesGuardAction then m.guardAction.getD .keep else .keep

end Sys2Proof.Machine
end

