-- ==== Sys2Proof/Machine/Ops.lean ====
section
/-! DEFINITION. The named operations over the state that the meanings share: sets of ports, the array, page entries,
the notice log's requests, parking, and a port's taking and answering of requests. -/
namespace Sys2Proof

/-! ### Sets of ports -/

/-- The empty set. -/
def PortSet.empty : PortSet := .all false

/-- A set with one member. -/
def PortSet.only (p : Port) : PortSet := (PerPort.all false).set p true

/-- Members of either set. -/
def PortSet.union (s t : PortSet) : PortSet := .ofFn fun p => s.get p || t.get p

/-- Members of both sets. -/
def PortSet.inter (s t : PortSet) : PortSet := .ofFn fun p => s.get p && t.get p

/-- A set without one port. -/
def PortSet.without (s : PortSet) (p : Port) : PortSet := s.set p false

/-- A set with one port more. -/
def PortSet.with (s : PortSet) (p : Port) : PortSet := s.set p true

/-- The set has no member. -/
def PortSet.isEmpty (s : PortSet) : Bool := !(s.p0 || s.p1 || s.p2 || s.p3)

end Sys2Proof

namespace Sys2Proof.Machine

/-! ### The array -/

/-- The stored word at a word address (R1). -/
def Memory.read : Memory → Nat → StoredWord
  | [], _ => Config.unwrittenWord
  | (a, w) :: rest, x => if x = a then w else Memory.read rest x

/-- A cell in front of the cells above it, left out when it holds what an unlisted address reads as. -/
def Memory.cons (x : Nat) (w : StoredWord) (rest : Memory) : Memory :=
  if w = Config.unwrittenWord then rest else (x, w) :: rest

/-- Store a word at a word address, keeping the canonical form. -/
def Memory.write : Memory → Nat → StoredWord → Memory
  | [], x, w => Memory.cons x w []
  | (a, v) :: rest, x, w =>
    if x < a then Memory.cons x w ((a, v) :: rest)
    else if x = a then Memory.cons x w rest
    else (a, v) :: Memory.write rest x w

/-- The canonical form: addresses strictly rising, and no entry equal to what an unlisted address reads as. -/
def Memory.wf (m : Memory) : Bool :=
  decide (m.Pairwise (fun c d => c.1 < d.1)) && m.all (fun c => decide (c.2 ≠ Config.unwrittenWord))

/-! ### Replacing one block -/

/-- The record of one port. -/
def State.port (s : State) (p : Port) : PortRecord := s.ports.get p

/-- Replace the record of one port. -/
def State.setPort (s : State) (p : Port) (r : PortRecord) : State := { s with ports := s.ports.set p r }

/-- Replace the page entries. -/
def State.setEntries (s : State) (l : List PageEntry) : State := { s with pageMap := { s.pageMap with entries := l } }

/-- Replace the offer list. -/
def State.setOffers (s : State) (l : List OfferEntry) : State := { s with pageMap := { s.pageMap with offers := l } }

/-- Replace the reservation table. -/
def State.setTable (s : State) (t : ReservationTable) : State := { s with table := t }

/-- Replace the arbiter's items. -/
def State.setArbiter (s : State) (a : Arbiter) : State := { s with arbiter := a }

/-- Replace the operation in flight. -/
def State.setSequencer (s : State) (o : Option Operation) : State := { s with sequencer := o }

/-- Replace the refresh controller. -/
def State.setRefresh (s : State) (r : RefreshController) : State := { s with refresh := r }

/-- Replace the clear engine. -/
def State.setClear (s : State) (c : ClearEngine) : State := { s with clear := c }

/-- Replace the scrub engine. -/
def State.setScrub (s : State) (c : ScrubEngine) : State := { s with scrub := c }

/-- Replace the notice log. -/
def State.setLog (s : State) (l : NoticeLog) : State := { s with log := l }

/-- Replace the control block. -/
def State.setControl (s : State) (c : ControlBlock) : State := { s with control := c }

/-- Replace the array. -/
def State.setArray (s : State) (m : Memory) : State := { s with array := m }

/-- Replace the pins' levels. -/
def State.setPins (s : State) (p : Pins) : State := { s with pins := p }

/-! ### Configured size -/

/-- The configured array size in words, by the latched MSIZE code (R170). -/
def sizeOfCode (code : BitVec 2) : Nat :=
  match code.toNat with
  | 0 => 1048576
  | 1 => 1048576
  | 2 => 2097152
  | _ => 4194304

/-- The configured array size in words (R27, R170). -/
def State.size (s : State) : Nat := sizeOfCode s.control.straps.msize

/-- The configured page count (R27, R170). -/
def State.pageCount (s : State) : Nat := s.size / Config.pageWords

/-- The page that holds a word address (00_scope, Pages). -/
def pageOf (addr : Nat) : Nat := addr / Config.pageWords

/-! ### Ports -/

/-- The port is ACTIVE (R16). -/
def State.isActive (s : State) (p : Port) : Bool := decide ((s.port p).state = .active)

/-- The set of ACTIVE ports. -/
def State.activePorts (s : State) : PortSet := .ofFn s.isActive

/-- A response with no payload and a clear corrected flag (R37). -/
def plainResponse (m : Request) (st : Status) : Response :=
  { tag := m.tag, status := st, corrected := false, data := none, guard := none, image := none }

/-- The first check on a request that becomes current: its kind and fields (R25). Answers the kind, or nothing for
BAD-REQUEST. -/
def checkFields (m : Request) : Option RequestKind :=
  match m.kind with
  | none => none
  | some k =>
    if k.usesGuardAction && m.guardAction.isNone then none
    else if (k == .read || k == .lockedRead) && decide (m.guardAction ≠ some .keep) then none
    else if k == .mergeWrite && decide (m.byteMask = 0#4) then none
    else some k

/-- The second and third checks: device state and range (R26, R27). -/
def checkServed (device : DeviceState) (size pages : Nat) (m : Request) (k : RequestKind) : Option Status :=
  if (k.isMemory || k == .unlock || k.isPage) && decide (device ≠ .run) then some .notRunning
  else if (k.isMemory || k == .unlock) && decide (size ≤ m.addr) then some .range
  else if k.isPage && decide (pages ≤ m.page) then some .range
  else none

/-- The port's three checks in their order; nothing when the request passes and is routed (R25 to R28, R36). -/
def portCheck (device : DeviceState) (size pages : Nat) (m : Request) : Option Status :=
  match checkFields m with
  | none => some .badRequest
  | some k => checkServed device size pages m k

/-- The head of the request queue becomes current. A request that fails a check is answered and the next one
becomes current; the first that passes is routed and stays current (R24, R30). Answers the current request, the
queue behind it and the response queue. -/
def takeNext (check : Request → Option Status) (responses : List Response) :
    List Request → Option CurrentRequest × List Request × List Response
  | [] => (none, [], responses)
  | m :: rest =>
    match check m with
    | some st => takeNext check (responses ++ [plainResponse m st]) rest
    | none => (some { msg := m, phase := .routed }, rest, responses)

/-- A port with no current request takes the next one; a port that has one goes on serving it (R24). -/
def PortRecord.becomeCurrent (check : Request → Option Status) (r : PortRecord) : PortRecord :=
  match r.current with
  | some _ => r
  | none =>
    let next := takeNext check r.responses r.queue
    { r with current := next.1, queue := next.2.1, responses := next.2.2 }

/-- The current request is answered: the response joins the response queue and the request ceases to be current
(R30). A port with no current request has nothing to answer. -/
def PortRecord.answered (resp : Response) (r : PortRecord) : PortRecord :=
  match r.current with
  | none => r
  | some _ => { r with current := none, responses := r.responses ++ [resp] }

/-- The checks a request meets in this state when it becomes current (R24). -/
def State.portCheck (s : State) : Request → Option Status :=
  Sys2Proof.Machine.portCheck s.control.device s.size s.pageCount

/-- The current request of a port when it stands in a phase with a kind. -/
def State.currentAs (s : State) (p : Port) (phase : ServicePhase) (k : RequestKind) : Option Request :=
  match (s.port p).current with
  | none => none
  | some c => if c.phase = phase ∧ c.msg.kind = some k then some c.msg else none

/-- The current request of a port when it waits in ROUTED with a kind: what an owner block or the arbiter takes. -/
def State.routed (s : State) (p : Port) (k : RequestKind) : Option Request := s.currentAs p .routed k

/-! ### Parking -/

/-- The word is held by an entry whose port is another port. -/
def heldByOther (entries : List Reservation) (p : Port) (addr : Nat) : Bool :=
  entries.any fun e => decide (e.addr = addr) && decide (e.port ≠ p)

/-- The word is held by an entry of the port. -/
def heldBy (entries : List Reservation) (p : Port) (addr : Nat) : Bool :=
  entries.any fun e => decide (e.addr = addr) && decide (e.port = p)

/-- The kinds that are parked behind another port's reservation (R86). -/
def RequestKind.parks : RequestKind → Bool
  | .write => true
  | .mergeWrite => true
  | .lockedRead => true
  | .read => false
  | .condWrite => false
  | .unlock => false
  | .claim => false
  | .grant => false
  | .revoke => false
  | .offer => false
  | .accept => false
  | .withdraw => false
  | .release => false
  | .pageQuery => false
  | .fetchNotice => false
  | .ctlRead => false
  | .ctlWrite => false
  | .start => false

/-- The parking mark a port's current request calls for (R84, R86): the word, when the request waits in ROUTED, is
a WRITE, a MERGE-WRITE or a LOCKED-READ, and another port holds its word; else clear. -/
def parkingMark (entries : List Reservation) (p : Port) : Option CurrentRequest → Option Nat
  | none => none
  | some c =>
    match c.phase, c.msg.kind with
    | .routed, some k => if k.parks && heldByOther entries p c.msg.addr then some c.msg.addr else none
    | .routed, none => none
    | .granted, _ => none

/-- Evaluate parking for one port's current request (R87). -/
def State.evaluateParking (s : State) (p : Port) : State :=
  s.setTable { s.table with parking := s.table.parking.set p (parkingMark s.table.entries p (s.port p).current) }

/-- Replace the reservation entries and re-evaluate parking for every port's current request (R87). -/
def State.setReservations (s : State) (l : List Reservation) : State :=
  s.setTable { entries := l, parking := .ofFn fun p => parkingMark l p (s.port p).current }

/-- Remove the entries a rule names, if there are any, and re-evaluate parking in the same step (R88, R101). -/
def State.dropReservations (s : State) (gone : Reservation → Bool) : State :=
  s.setReservations (s.table.entries.filter fun e => !gone e)

/-! ### A port takes its next request, and is answered -/

/-- The port makes its next request current, and parking is evaluated for it (R24, R87). -/
def State.serveNext (s : State) (p : Port) : State :=
  (s.setPort p ((s.port p).becomeCurrent s.portCheck)).evaluateParking p

/-- The current request of a port is answered and the port takes its next one (R30). -/
def State.answer (s : State) (p : Port) (resp : Response) : State :=
  (s.setPort p ((s.port p).answered resp)).serveNext p

/-- The current request of a port is answered with a status and no payload (R60). -/
def State.answerStatus (s : State) (p : Port) (m : Request) (st : Status) : State := s.answer p (plainResponse m st)

/-! ### Page entries -/

/-- An entry as it stands after cold reset (R56), and what the model reads for a page that has no entry (log
entry 18). -/
def PageEntry.afterColdReset : PageEntry :=
  { state := .clearing, owner := none, readSet := PortSet.empty, writeSet := PortSet.empty, guardMode := .off, corrected := 0,
    weak := false }

/-- The entry of a page. -/
def State.entry (s : State) (n : Nat) : PageEntry := s.pageMap.entries.getD n .afterColdReset

/-- Replace the entry of a page. -/
def State.setEntry (s : State) (n : Nat) (e : PageEntry) : State := s.setEntries (s.pageMap.entries.set n e)

/-- The page is HELD or OFFERED (R44). -/
def PageEntry.isHeld (e : PageEntry) : Bool := decide (e.state = .held) || decide (e.state = .offered)

/-- The port owns the page (R41, R61). -/
def PageEntry.ownedBy (e : PageEntry) (p : Port) : Bool := e.isHeld && decide (e.owner = some p)

/-- The port has the read right (R44). -/
def PageEntry.mayRead (e : PageEntry) (p : Port) : Bool :=
  e.isHeld && (decide (e.owner = some p) || e.readSet.get p || e.writeSet.get p)

/-- The port has the write right (R44). -/
def PageEntry.mayWrite (e : PageEntry) (p : Port) : Bool := e.isHeld && (decide (e.owner = some p) || e.writeSet.get p)

/-- The right a memory kind needs (R46, step 1). -/
def PageEntry.mayDo (e : PageEntry) (k : RequestKind) (p : Port) : Bool :=
  if k = .read then e.mayRead p else e.mayWrite p

/-- The page map's access check at grant: nothing when the request passes (R46). -/
def accessCheck (e : PageEntry) (p : Port) (k : RequestKind) (action : GuardAction) : Option Status :=
  if !e.mayDo k p then some .noAccess
  else if action ≠ .keep ∧ e.guardMode = .off then some .guardOff
  else if action ≠ .keep ∧ !e.ownedBy p then some .notOwner
  else none

/-- What the page map hands to the notice log about a page (R53). -/
def PageEntry.info (e : PageEntry) : PageInfo := { state := e.state, owner := e.owner, readSet := e.readSet }

/-- The offer entry of a page (R71). -/
def State.offerOf (s : State) (n : Nat) : Option OfferEntry := s.pageMap.offers.find? fun o => decide (o.page = n)

/-- The offer entry of a page is removed, its timer with it (R71). -/
def State.removeOffer (s : State) (n : Nat) : State := s.setOffers (s.pageMap.offers.filter fun o => decide (o.page ≠ n))

/-- The page returns from OFFERED to HELD with the same owner, sets and guard mode (R41). -/
def State.backToHeld (s : State) (n : Nat) : State := s.setEntry n { s.entry n with state := .held }

/-! ### Requests to the notice log -/

/-- A block hands requests to the notice log, in order (R155, R157). -/
def State.ask (s : State) (l : List NoticeRequest) : State := s.setLog { s.log with asked := s.log.asked ++ l }

/-- The block in whose step a request was handed over (R153, R157). -/
def NoticeRequest.asker : NoticeRequest → Asker
  | .corrected _ _ _ _ _ _ => .sequencer
  | .uncorrectable _ _ _ _ _ _ => .sequencer
  | .weakPage _ _ => .sequencer
  | .refreshOverrun => .refreshController
  | .portOverrun p => .port p
  | .offerMade _ _ _ => .pageMap
  | .offerExpired _ _ _ => .pageMap
  | .offerCutByReset _ _ _ => .pageMap
  | .pageAccepted _ _ _ => .pageMap
  | .ready => .controlBlock
  | .started _ => .controlBlock

end Sys2Proof.Machine
end

