-- ==== Sys2Proof/Machine/Channels.lean ====
section
/-! DEFINITION. The request and response channels of a port: LINK_UP_DELIVERED, REQUEST_ARRIVES, RESPONSE_DELIVERED. -/
namespace Sys2Proof.Machine

/-- LINK_UP_DELIVERED (R20): the indication leaves; it changes no count. -/
def execLinkUpDelivered (p : Port) (s : State) : Host.Outcome State Fault Refusal :=
  if s.isActive p && (s.port p).linkUp then
    .next (s.setPort p { s.port p with linkUp := false, channel := some (linkUpMessage p) })
  else .next s

/-- The request is appended at the tail of the queue and counted (R21). -/
def PortRecord.accepted (r : PortRecord) (m : Request) : PortRecord :=
  { r with queue := r.queue ++ [m], outstanding := r.outstanding + 1 }

/-- A request arrives at an ACTIVE port: accepted below 8 outstanding, where an idle port takes it at once, and
otherwise a protocol overrun (R21, R22, R24). -/
def State.arrive (s : State) (p : Port) (m : Request) : State :=
  if (s.port p).outstanding < Config.credits then
    let s1 := s.setPort p ((s.port p).accepted m)
    match (s.port p).current with
    | some _ => s1
    | none => s1.serveNext p
  else s.ask [.portOverrun p]

/-- REQUEST_ARRIVES (R16, R21, R22). A message that arrives at a port in RESET or ABSENT is ignored (R16). -/
def execRequestArrives (p : Port) (w0 w1 w2 : Word) (s : State) : Host.Outcome State Fault Refusal :=
  if s.isActive p then .next (s.arrive p { w0 := w0, w1 := w1, w2 := w2 }) else .next s

/-- The head response leaves: it is removed, the outstanding count falls by 1, and its four words stand on the
channel (R31, R179). Nothing leaves before the link-up indication (R20). -/
def PortRecord.deliver (r : PortRecord) : PortRecord :=
  match r.linkUp, r.responses with
  | false, resp :: rest =>
    { r with responses := rest, outstanding := r.outstanding - 1, channel := some resp.message }
  | false, [] => r
  | true, _ => r

/-- RESPONSE_DELIVERED (R31). -/
def execResponseDelivered (p : Port) (s : State) : Host.Outcome State Fault Refusal :=
  if s.isActive p then .next (s.setPort p (s.port p).deliver) else .next s

end Sys2Proof.Machine
end

