-- ==== Sys2Proof/Machine/Control.lean ====
section
/-! DEFINITION. The control requests: CTL_READ, CTL_WRITE, LOST_COUNT, START. -/
namespace Sys2Proof.Machine

/-- The value of a control word; no value at an unused index (R174 to R177, R181). -/
def State.controlWord (s : State) : Nat → Option Word
  | 0 => some Config.vendorCode
  | 1 => some Config.partCode
  | 2 => some Config.revision
  | 3 => some (field s.control.device.code 0)
  | 4 => some (field s.size 0)
  | 5 => some (field s.pageCount 0)
  | 6 => some s.control.straps.word
  | 8 => some (field s.control.items.refreshInterval 0)
  | 9 => some (field s.control.items.scrubInterval 0)
  | 10 => some (field s.control.items.reservationLifetime 0)
  | 11 => some (field s.control.items.offerLifetime 0)
  | 12 => some (flag s.control.items.writeBack 0)
  | 13 => some (flag s.control.items.logging 0)
  | 14 => some (field s.control.items.weakThreshold 0)
  | 15 => some (flag s.control.items.priority.p0 0)
  | 16 => some (flag s.control.items.priority.p1 0)
  | 17 => some (flag s.control.items.priority.p2 0)
  | 18 => some (flag s.control.items.priority.p3 0)
  | 20 => some (portStatusWord s.ports.p0 s.control.items.priority.p0)
  | 21 => some (portStatusWord s.ports.p1 s.control.items.priority.p1)
  | 22 => some (portStatusWord s.ports.p2 s.control.items.priority.p2)
  | 23 => some (portStatusWord s.ports.p3 s.control.items.priority.p3)
  | 24 => some s.refresh.word
  | 25 => some (field s.scrub.position 0)
  | 26 => some (s.scrub.passes.setWidth 32)
  | 27 => some s.clear.word
  | 28 => some (field s.pageMap.offers.length 0)
  | 29 => some (field s.table.entries.length 0)
  | 30 => some (field s.log.records.length 0)
  | 31 => some (field s.log.lost 0)
  | 32 => some (s.log.sequence.setWidth 32)
  | 40 => some (reservationWord s.table.entries[0]?)
  | 41 => some (reservationWord s.table.entries[1]?)
  | 42 => some (reservationWord s.table.entries[2]?)
  | 43 => some (reservationWord s.table.entries[3]?)
  | 44 => some (reservationWord s.table.entries[4]?)
  | 45 => some (reservationWord s.table.entries[5]?)
  | 46 => some (reservationWord s.table.entries[6]?)
  | 47 => some (reservationWord s.table.entries[7]?)
  | _ => none

/-- CTL_READ (R174). -/
def execCtlRead (p : Port) (s : State) : Host.Outcome State Fault Refusal :=
  match s.routed p .ctlRead with
  | none => .next s
  | some m =>
    match s.controlWord m.controlIndex with
    | none => .next (s.answerStatus p m .badValue)
    | some v => .next (s.answer p { plainResponse m .ok with data := some v })

/-- The index of the LOST COUNT word (R181). -/
def lostCountIndex : Nat := 31

/-- The index names a configuration item (R172, R181). -/
def isItemIndex (i : Nat) : Bool := decide (8 ≤ i) && decide (i ≤ 18)

/-- The items with one of them written; nothing when the value lies outside its range or the index names no item
(R172, R173). -/
def ConfigItems.write (c : ConfigItems) (v : Nat) : Nat → Option ConfigItems
  | 8 => if 1 ≤ v ∧ v ≤ 31 then some { c with refreshInterval := v } else none
  | 9 => if v ≤ 65535 then some { c with scrubInterval := v } else none
  | 10 => if 1 ≤ v ∧ v ≤ 65535 then some { c with reservationLifetime := v } else none
  | 11 => if 1 ≤ v ∧ v ≤ 65535 then some { c with offerLifetime := v } else none
  | 12 => if v ≤ 1 then some { c with writeBack := decide (v = 1) } else none
  | 13 => if v ≤ 1 then some { c with logging := decide (v = 1) } else none
  | 14 => if v ≤ 255 then some { c with weakThreshold := v } else none
  | 15 => if v ≤ 1 then some { c with priority := c.priority.set .p0 (decide (v = 1)) } else none
  | 16 => if v ≤ 1 then some { c with priority := c.priority.set .p1 (decide (v = 1)) } else none
  | 17 => if v ≤ 1 then some { c with priority := c.priority.set .p2 (decide (v = 1)) } else none
  | 18 => if v ≤ 1 then some { c with priority := c.priority.set .p3 (decide (v = 1)) } else none
  | _ => none

/-- The device-state check of a write of a configuration item (R173). -/
def judgeDevice : DeviceState → Option Status
  | .init => some .notReady
  | .setup => none
  | .run => some .frozen

/-- A CTL-WRITE of the LOST COUNT word: taken with value 0 in any device state, else BAD-VALUE (R165, R173). -/
def State.writeLostCount (s : State) (p : Port) (m : Request) : State :=
  if m.data = 0#32 then (s.setLog { s.log with lost := 0 }).answerStatus p m .ok else s.answerStatus p m .badValue

/-- A CTL-WRITE of a configuration item: the device state, then the value (R173). -/
def State.writeItem (s : State) (p : Port) (m : Request) : State :=
  match judgeDevice s.control.device with
  | some st => s.answerStatus p m st
  | none =>
    match s.control.items.write m.data.toNat m.controlIndex with
    | none => s.answerStatus p m .badValue
    | some c => (s.setControl { s.control with items := c }).answerStatus p m .ok

/-- CTL_WRITE (R173): the index check first. The LOST COUNT word is written here too, as by the row LOST_COUNT (log
entry 13). -/
def execCtlWrite (p : Port) (s : State) : Host.Outcome State Fault Refusal :=
  match s.routed p .ctlWrite with
  | none => .next s
  | some m =>
    if m.controlIndex = lostCountIndex then .next (s.writeLostCount p m)
    else if isItemIndex m.controlIndex then .next (s.writeItem p m)
    else .next (s.answerStatus p m .badValue)

/-- LOST_COUNT (R165): a CTL-WRITE of the LOST COUNT word; of any other word it is not this step. -/
def execLostCount (p : Port) (s : State) : Host.Outcome State Fault Refusal :=
  match s.routed p .ctlWrite with
  | none => .next s
  | some m => if m.controlIndex = lostCountIndex then .next (s.writeLostCount p m) else .next s

/-- The scrub engine at the start of RUN: position 0, pass count 0, nothing pending, and its timer started unless the
configured interval is 0 (R147). -/
def ScrubEngine.atRun (interval : Nat) : ScrubEngine :=
  { position := 0, passes := 0#16, pending := false, timer := if interval = 0 then .stopped else .running interval }

/-- The device enters RUN: the scrub engine starts and STARTED is asked for (R147, R168). -/
def State.enterRun (s : State) (p : Port) : State :=
  ((s.setControl { s.control with device := .run }).setScrub (ScrubEngine.atRun s.control.items.scrubInterval)).ask
    [.started p]

/-- START (R168). -/
def execStart (p : Port) (s : State) : Host.Outcome State Fault Refusal :=
  match s.routed p .start with
  | none => .next s
  | some m =>
    match s.control.device with
    | .init => .next (s.answerStatus p m .notReady)
    | .setup => .next ((s.enterRun p).answerStatus p m .ok)
    | .run => .next (s.answerStatus p m .ok)

end Sys2Proof.Machine
end

