-- ==== Sys2Proof/Machine/Arbiter.lean ====
section
/-! DEFINITION. The arbiter: who is a candidate, whom a grant goes to, and what a grant does to the arbiter's items
(R104 to R110). -/
namespace Sys2Proof.Machine

/-- The four kinds of candidate (R105). -/
inductive Candidate where
  | port (p : Port)
  | refreshController
  | clearEngine
  | scrubEngine
deriving DecidableEq, Repr

/-- The port has a current memory request in ROUTED (R105). -/
def CurrentRequest.awaitsGrant (c : CurrentRequest) : Bool :=
  decide (c.phase = .routed) && (c.msg.kind.map RequestKind.isMemory).getD false

/-- Port n is a candidate: ACTIVE, with a current memory request in ROUTED, and its parking mark clear (R105). -/
def State.portCandidate (s : State) (p : Port) : Bool :=
  s.isActive p && ((s.port p).current.map CurrentRequest.awaitsGrant).getD false && (s.table.parking.get p).isNone

/-- Port n belongs to the priority class (R104, R172). -/
def State.isPriority (s : State) (p : Port) : Bool := s.control.items.priority.get p

/-- A candidate of the priority class. -/
def State.priorityCandidate (s : State) (p : Port) : Bool := s.portCandidate p && s.isPriority p

/-- A candidate of the normal class. -/
def State.normalCandidate (s : State) (p : Port) : Bool := s.portCandidate p && !s.isPriority p

/-- At least one normal-class port is a candidate. -/
def State.normalWaits (s : State) : Bool := Port.all.any s.normalCandidate

/-- The clear engine is a candidate while the clear queue is not empty (R105, R142). -/
def State.clearCandidate (s : State) : Bool := !s.clear.queue.isEmpty

/-- The four ports in ascending order beginning after a port and wrapping from port 3 to port 0 (R108). -/
def portsAfter : Port → List Port
  | .p0 => [.p1, .p2, .p3, .p0]
  | .p1 => [.p2, .p3, .p0, .p1]
  | .p2 => [.p3, .p0, .p1, .p2]
  | .p3 => [.p0, .p1, .p2, .p3]

/-- The round-robin of a class: the first candidate after the last port of that class granted (R108). -/
def roundRobin (last : Port) (isCandidate : Port → Bool) : Option Port := (portsAfter last).find? isCandidate

/-- Step 3 is passed over: the streak count has reached 8 and a normal-class port is a candidate (R107). -/
def State.priorityPassedOver (s : State) : Bool := decide (Config.streakLimit ≤ s.arbiter.streak) && s.normalWaits

/-- Step 3 of the grant order (R107). -/
def State.priorityChoice (s : State) : Option Port :=
  if s.priorityPassedOver then none else roundRobin s.arbiter.lastPriority s.priorityCandidate

/-- Step 4 of the grant order (R107). -/
def State.normalChoice (s : State) : Option Port := roundRobin s.arbiter.lastNormal s.normalCandidate

/-- Steps 5 to 7 of the grant order (R107): the clear engine, the refresh controller, the scrub engine. -/
def State.engineChoice (s : State) : Option Candidate :=
  if s.clearCandidate then some .clearEngine
  else if 1 ≤ s.refresh.owed then some .refreshController
  else if s.scrub.pending then some .scrubEngine
  else none

/-- Steps 3 and 4 of the grant order: a port. -/
def State.portChoice (s : State) : Option Port :=
  match s.priorityChoice with
  | some p => some p
  | none => s.normalChoice

/-- The grant order of R107: the candidate the arbiter grants if it makes a grant now. -/
def State.grantOrder (s : State) : Option Candidate :=
  if Config.urgentOwed ≤ s.refresh.owed then some .refreshController
  else if s.clearCandidate && decide (Config.shareLimit ≤ s.arbiter.clearShare) then some .clearEngine
  else
    match s.portChoice with
    | some p => some (.port p)
    | none => s.engineChoice

/-- Whom the arbiter grants: nobody while an operation is in flight (R106). -/
def State.arbiterChoice (s : State) : Option Candidate :=
  match s.sequencer with
  | some _ => none
  | none => s.grantOrder

/-- The priority streak count after a grant of a port (R109). -/
def State.streakAfter (s : State) (p : Port) : Nat :=
  if s.isPriority p && s.normalWaits then s.arbiter.streak + 1 else 0

/-- The clear-share count after a grant of a port (R110). -/
def State.shareAfter (s : State) : Nat := if s.clearCandidate then s.arbiter.clearShare + 1 else 0

/-- The arbiter's items after a grant of a port (R108 to R110). -/
def State.arbiterAfter (s : State) (p : Port) : Arbiter :=
  { lastPriority := if s.isPriority p then p else s.arbiter.lastPriority,
    lastNormal := if s.isPriority p then s.arbiter.lastNormal else p,
    streak := s.streakAfter p,
    clearShare := s.shareAfter }

end Sys2Proof.Machine
end

