-- ==== Sys2Proof/Machine/Grants.lean ====
section
/-! DEFINITION. The grants: READ, WRITE, MERGE_WRITE, LOCKED_READ, COND_WRITE, REFRESH_GRANT, CLEAR_GRANT and
SCRUB_GRANT. A grant command names whom the arbiter grants; where the arbiter would not grant it in this state, no
such grant takes place (log entries 9 and 22). -/
namespace Sys2Proof.Machine

/-- The request a grant of a port serves: the arbiter chooses the port and its current request is of the kind. -/
def State.grantable (s : State) (p : Port) (k : RequestKind) : Option Request :=
  if s.arbiterChoice = some (.port p) then s.routed p k else none

/-- The grant itself: the arbiter's items move, refused or not (R108 to R111), and the port records GRANTED (R28). -/
def State.toGranted (s : State) (p : Port) (m : Request) : State :=
  (s.setArbiter (s.arbiterAfter p)).setPort p { s.port p with current := some { msg := m, phase := .granted } }

/-- The guard value stored by a write (R116): on an ON page by the guard action, KEEP keeping the stored guard; on
an OFF page 0. -/
def storedGuard (mode : GuardMode) (action : GuardAction) (stored : Bool) : Bool :=
  match mode, action with
  | .on, .keep => stored
  | .on, .set => true
  | .on, .clear => false
  | .off, .keep => false
  | .off, .set => false
  | .off, .clear => false

/-- The operation kind of a memory request (R115). The last line is reached by no request of a memory kind. -/
def operationKind (k : RequestKind) (mode : GuardMode) (action : GuardAction) : OpKind :=
  match k with
  | .read => .read
  | .lockedRead => .read
  | .mergeWrite => .merge
  | .write => if mode = .on ∧ action = .keep then .checkedStore else .store
  | .condWrite => if mode = .on ∧ action = .keep then .checkedStore else .store
  | _ => .read

/-- The terms an operation carries from the grant: the two facts from the page entry are fixed here (R47, R114). -/
def State.termsAtGrant (s : State) (p : Port) (m : Request) (k : RequestKind) : PortTerms :=
  { port := p, msg := m, kind := k, guardMode := (s.entry (pageOf m.addr)).guardMode,
    isOwner := (s.entry (pageOf m.addr)).ownedBy p }

/-- The operation a granted memory request begins (R114, R115). A STORE begins in WRITING with its word settled;
the others begin in READING. -/
def operationFor (t : PortTerms) : Operation :=
  let action := t.msg.judgedAction t.kind
  let kind := operationKind t.kind t.guardMode action
  { kind := kind, served := .port t, target := .word t.msg.addr,
    phase := if kind = .store then .writing else .reading,
    decoded := none,
    settled :=
      if kind = .store then some { data := t.msg.data, guard := storedGuard t.guardMode action false } else none }

/-- The operation begins (R111, step 4). -/
def State.beginFor (s : State) (p : Port) (m : Request) (k : RequestKind) : State :=
  s.setSequencer (some (operationFor (s.termsAtGrant p m k)))

/-- The page map's check of a memory request at grant (R46, R111 step 1). -/
def State.checkAccess (s : State) (p : Port) (m : Request) (k : RequestKind) : Option Status :=
  accessCheck (s.entry (pageOf m.addr)) p k (m.judgedAction k)

/-- A grant whose only check is the page map's (R48): refused and answered at once, or the operation begins. -/
def State.grantPlain (s : State) (p : Port) (m : Request) (k : RequestKind) : State :=
  let g := s.toGranted p m
  match g.checkAccess p m k with
  | some st => g.answerStatus p m st
  | none => g.beginFor p m k

/-- The reservations a port holds. -/
def reservationsOf (entries : List Reservation) (p : Port) : List Reservation :=
  entries.filter fun e => decide (e.port = p)

/-- The NO-ROOM check: the requester holds two entries, neither for the word (R90). -/
def noRoom (entries : List Reservation) (p : Port) (addr : Nat) : Bool :=
  decide (Config.reservationsPerPort ≤ (reservationsOf entries p).length) && !heldBy entries p addr

/-- A granted LOCKED-READ: the page map's check, then the table's NO-ROOM check (R48, R90, R111). -/
def State.grantLockedRead (s : State) (p : Port) (m : Request) : State :=
  let g := s.toGranted p m
  match g.checkAccess p m .lockedRead with
  | some st => g.answerStatus p m st
  | none =>
    if noRoom g.table.entries p m.addr then g.answerStatus p m .noRoom
    else g.beginFor p m .lockedRead

/-- The requester's entry on a word. -/
def Reservation.isOn (p : Port) (addr : Nat) (e : Reservation) : Bool := decide (e.port = p) && decide (e.addr = addr)

/-- A granted COND-WRITE: the page map's check, then the table's; the entry is spent at the grant (R92, R111). -/
def State.grantCondWrite (s : State) (p : Port) (m : Request) : State :=
  let g := s.toGranted p m
  match g.checkAccess p m .condWrite with
  | some st => g.answerStatus p m st
  | none =>
    if heldBy g.table.entries p m.addr then
      (g.dropReservations (Reservation.isOn p m.addr)).beginFor p m .condWrite
    else g.answerStatus p m .lapsed

/-- READ (R46, R111, R117). -/
def execRead (p : Port) (s : State) : Host.Outcome State Fault Refusal :=
  match s.grantable p .read with
  | none => .next s
  | some m => .next (s.grantPlain p m .read)

/-- WRITE (R111, R115). -/
def execWrite (p : Port) (s : State) : Host.Outcome State Fault Refusal :=
  match s.grantable p .write with
  | none => .next s
  | some m => .next (s.grantPlain p m .write)

/-- MERGE_WRITE (R111, R120); judged as carrying KEEP (R29). -/
def execMergeWrite (p : Port) (s : State) : Host.Outcome State Fault Refusal :=
  match s.grantable p .mergeWrite with
  | none => .next s
  | some m => .next (s.grantPlain p m .mergeWrite)

/-- LOCKED_READ (R90, R111). -/
def execLockedRead (p : Port) (s : State) : Host.Outcome State Fault Refusal :=
  match s.grantable p .lockedRead with
  | none => .next s
  | some m => .next (s.grantLockedRead p m)

/-- COND_WRITE (R92, R111). -/
def execCondWrite (p : Port) (s : State) : Host.Outcome State Fault Refusal :=
  match s.grantable p .condWrite with
  | none => .next s
  | some m => .next (s.grantCondWrite p m)

/-- A REFRESH of the row the row counter names (R133). -/
def State.refreshOperation (s : State) : Operation :=
  { kind := .refresh, served := .refreshController, target := .row s.refresh.row, phase := .refreshing,
    decoded := none, settled := none }

/-- REFRESH_GRANT (R133): the owed count, the row counter and the arbiter's items stand. -/
def execRefreshGrant (s : State) : Host.Outcome State Fault Refusal :=
  if s.arbiterChoice = some .refreshController then .next (s.setSequencer (some s.refreshOperation)) else .next s

/-- The next word of the head page of the clear queue (R142). -/
def ClearEngine.nextWord (c : ClearEngine) : Nat := c.queue.headD 0 * Config.pageWords + c.progress

/-- A CLEAR of the next word: data 0 and guard 0 (R3, R142). -/
def State.clearOperation (s : State) : Operation :=
  { kind := .clear, served := .clearEngine, target := .word s.clear.nextWord, phase := .writing, decoded := none,
    settled := some { data := 0#32, guard := false } }

/-- CLEAR_GRANT (R142): the clear-share count returns to 0 (R110). -/
def execClearGrant (s : State) : Host.Outcome State Fault Refusal :=
  if s.arbiterChoice = some .clearEngine then
    .next ((s.setArbiter { s.arbiter with clearShare := 0 }).setSequencer (some s.clearOperation))
  else .next s

/-- A SCRUB of the word at the scrub position (R148). -/
def State.scrubOperation (s : State) : Operation :=
  { kind := .scrub, served := .scrubEngine, target := .word s.scrub.position, phase := .reading, decoded := none,
    settled := none }

/-- SCRUB_GRANT (R148): the scrub engine and the arbiter's items stand. -/
def execScrubGrant (s : State) : Host.Outcome State Fault Refusal :=
  if s.arbiterChoice = some .scrubEngine then .next (s.setSequencer (some s.scrubOperation)) else .next s

end Sys2Proof.Machine
end

