-- ==== Sys2Proof/Machine/NoticeRecords.lean ====
section
/-! DEFINITION. How the notice log takes a request: the recipients, the record, its place in the list, and the orders in
which requests of different blocks are taken. -/
namespace Sys2Proof.Machine

/-- The recipients of a notice about a page: owner and read set of a HELD or OFFERED page less every port not
ACTIVE; every ACTIVE port for a FREE or CLEARING page (R53, R155). -/
def PageInfo.recipients (i : PageInfo) (active : PortSet) : PortSet :=
  match i.state with
  | .held => PortSet.inter (PortSet.union ((i.owner.map PortSet.only).getD PortSet.empty) i.readSet) active
  | .offered => PortSet.inter (PortSet.union ((i.owner.map PortSet.only).getD PortSet.empty) i.readSet) active
  | .free => active
  | .clearing => active

/-- The recipient set of a request to the log, formed from the ports ACTIVE when the log takes it (R155, R167). R132,
R138, R151, R168 and R171 speak of the ports ACTIVE when the block that asks takes its step. Both hold of every
record, because no port enters ACTIVE between the two steps (State.logTakesAll; log entry 24) and a port that leaves
ACTIVE between them is removed (R159). -/
def NoticeRequest.recipients (active : PortSet) : NoticeRequest → PortSet
  | .corrected _ _ _ _ _ info => info.recipients active
  | .uncorrectable _ _ _ _ _ info => info.recipients active
  | .weakPage _ info => info.recipients active
  | .refreshOverrun => active
  | .portOverrun p => PortSet.inter (PortSet.only p) active
  | .offerMade _ _ toPort => PortSet.inter (PortSet.only toPort) active
  | .offerExpired _ fromPort toPort => PortSet.inter (PortSet.union (PortSet.only fromPort) (PortSet.only toPort)) active
  | .offerCutByReset _ _ other => PortSet.inter (PortSet.only other) active
  | .pageAccepted _ former _ => PortSet.inter (PortSet.only former) active
  | .ready => active
  | .started starter => PortSet.without active starter

/-- An image that carries only its kind and sequence number. -/
def NoticeImage.bare (sequence : BitVec 16) (kind : NoticeKind) : NoticeImage :=
  { sequence := sequence, kind := kind, addr := none, page := none, syndrome := none, cls := none, foundBy := none,
    other := none }

/-- The class field of a CORRECTED record (R153). -/
def Subclass.noticeClass : Subclass → NoticeClass
  | .data => .singleData
  | .guard => .singleGuard
  | .check => .singleCheck

/-- The fields of the record a request gives rise to (R153). -/
def NoticeRequest.image (seq : BitVec 16) : NoticeRequest → NoticeImage
  | .corrected addr page syndrome sub f _ =>
    { NoticeImage.bare seq .corrected with
      addr := some addr, page := some page, syndrome := some syndrome, cls := some sub.noticeClass, foundBy := some f }
  | .uncorrectable addr page syndrome double f _ =>
    { NoticeImage.bare seq .uncorrectable with
      addr := some addr, page := some page, syndrome := some syndrome,
      cls := some (if double then .double else .multiple), foundBy := some f }
  | .weakPage page _ => { NoticeImage.bare seq .weakPage with page := some page }
  | .refreshOverrun => NoticeImage.bare seq .refreshOverrun
  | .portOverrun _ => NoticeImage.bare seq .portOverrun
  | .offerMade page fromPort _ => { NoticeImage.bare seq .offerMade with page := some page, other := some fromPort }
  | .offerExpired page _ toPort => { NoticeImage.bare seq .offerLapsed with page := some page, other := some toPort }
  | .offerCutByReset page resetPort _ =>
    { NoticeImage.bare seq .offerLapsed with page := some page, other := some resetPort }
  | .pageAccepted page _ newOwner => { NoticeImage.bare seq .pageAccepted with page := some page, other := some newOwner }
  | .ready => NoticeImage.bare seq .ready
  | .started _ => NoticeImage.bare seq .started

/-- A record with a non-empty recipient set is given its sequence number; it joins the list and raises its
recipients' lines, or with 16 records held it is discarded and counted as lost (R156, R162). -/
def NoticeLog.create (l : NoticeLog) (r : NoticeRequest) (recipients : PortSet) : NoticeLog :=
  if l.records.length < Config.logRoom then
    { l with records := l.records ++ [{ image := r.image l.sequence, recipients := recipients }],
             sequence := l.sequence + 1#16, lines := PortSet.union l.lines recipients }
  else { l with sequence := l.sequence + 1#16, lost := min 255 (l.lost + 1) }

/-- The log takes a request: an empty recipient set makes no record and changes nothing (R155, R156). -/
def NoticeLog.take (l : NoticeLog) (active : PortSet) (r : NoticeRequest) : NoticeLog :=
  if PortSet.isEmpty (r.recipients active) then l else l.create r (r.recipients active)

/-- The request was handed over by a block. -/
def NoticeRequest.from (a : Asker) (r : NoticeRequest) : Bool := decide (r.asker = a)

/-- The waiting requests that the log may take now, oldest first. READY, once it is the oldest, is taken before all
that were handed over after it (R164, R167; log entry 25); otherwise the order is free between blocks (R157). -/
def NoticeLog.takeable (l : NoticeLog) : List NoticeRequest :=
  if l.asked.head? = some .ready then [.ready] else l.asked

/-- The log takes every waiting request, each whole, in the order in which they were handed over. -/
def NoticeLog.takeAll (l : NoticeLog) (active : PortSet) : NoticeLog :=
  l.asked.foldl (fun l r => l.take active r) { l with asked := [] }

/-- The log has taken every waiting request, from the port states of this moment. This comes first when a port enters
ACTIVE by its PRST (log entry 24) and when the INIT clear ends (log entry 25). -/
def State.logTakesAll (s : State) : State := s.setLog (s.log.takeAll s.activePorts)

end Sys2Proof.Machine
end

