-- ==== Sys2Proof/Machine/Resets.lean ====
section
/-! DEFINITION. Cold reset and port reset: NRST_FALLS, NRST_RISES, PRST_FALLS, PRST_RISES. -/
namespace Sys2Proof.Machine

/-- The word an operation is writing: one abandoned in WRITING may leave any 40 bits there (R128). -/
def Operation.wordBeingWritten (o : Operation) : Option Nat :=
  match o.phase, o.target with
  | .writing, .word a => some a
  | .writing, .row _ => none
  | .reading, _ => none
  | .refreshing, _ => none

/-- The word that cold reset leaves half written, if there is one. -/
def State.halfWritten (s : State) : Option Nat := s.sequencer.bind Operation.wordBeingWritten

/-- The array after cold reset abandons the operation in flight: nothing else in it is touched (R15, R128; log
entry 5), and a word being written holds a free value (log entry 6). -/
def State.abandonedArray (s : State) : Memory :=
  match s.halfWritten with
  | none => s.array
  | some a => s.array.write a (Config.abandonedWord s.freeDraws)

/-- The free values drawn once cold reset has abandoned the operation in flight. -/
def State.drawsAfterAbandon (s : State) : Nat :=
  match s.halfWritten with
  | none => s.freeDraws
  | some _ => s.freeDraws + 1

/-- Every block at its reset values, with the pins' levels, the array and the model's own counter and queue of
another state. -/
def State.coldReset (s : State) : State :=
  { State.reset with
    pins := { nrst := false, prst := s.pins.prst }, array := s.abandonedArray, freeDraws := s.drawsAfterAbandon,
    pending := s.pending }

/-- NRST_FALLS (R17, R82, R103, R128, R139, R152, R164, R166, R172). -/
def execNrstFalls (s : State) : Host.Outcome State Fault Refusal := .next s.coldReset

/-- A port that enters ACTIVE: empty queues, no current request, outstanding count 0, a link-up indication to send;
an orphan mark stays (R20, R35). -/
def PortRecord.enterActive (r : PortRecord) : PortRecord :=
  { PortRecord.inReset with state := .active, linkUp := true, orphan := r.orphan }

/-- The state a port takes from its PEN strap and its PRST pin when NRST rises (R16, R17). -/
def portAtRise (present prstHigh : Bool) : PortRecord :=
  if present then
    if prstHigh then PortRecord.inReset.enterActive else PortRecord.inReset
  else { PortRecord.inReset with state := .absent }

/-- NRST rises: the straps are latched, the ports take their states, the page map is rebuilt as CLEARING with the
clear queue full, and the refresh timer starts at the configured interval (R17, R56, R130, R145, R170). The
device is in INIT and every other block stands at its reset values (R103, R104, R146, R152, R154, R166). -/
def State.afterRise (s : State) (msize : BitVec 2) (pen : PortSet) : State :=
  { State.reset with
    pins := { nrst := true, prst := s.pins.prst },
    ports := .ofFn fun p => portAtRise (pen.get p) (s.pins.prst.get p),
    pageMap := { entries := List.replicate (sizeOfCode msize / Config.pageWords) .afterColdReset, offers := [] },
    refresh := { RefreshController.inColdReset with timer := .running State.reset.control.items.refreshInterval },
    clear := { queue := List.range (sizeOfCode msize / Config.pageWords), progress := 0 },
    control := { State.reset.control with straps := { msize := msize, pen := pen } },
    array := s.array, freeDraws := s.freeDraws, pending := s.pending }

/-- NRST_RISES (R17). With NRST high already it cannot rise (log entry 9). -/
def execNrstRises (msize : BitVec 2) (pen : PortSet) (s : State) : Host.Outcome State Fault Refusal :=
  if s.pins.nrst then .next s else .next (s.afterRise msize pen)

/-- The current request is in phase GRANTED. -/
def PortRecord.isGranted (r : PortRecord) : Bool := (r.current.map fun c => decide (c.phase = .granted)).getD false

/-- The port's own part of a port reset (R32): everything is emptied, and a granted operation gets the orphan mark
(R33). -/
def PortRecord.portReset (r : PortRecord) : PortRecord :=
  { PortRecord.inReset with orphan := r.orphan || r.isGranted }

/-- The party to an offer other than a port (R78). -/
def OfferEntry.otherParty (o : OfferEntry) (p : Port) : Port := if o.fromPort = p then o.toPort else o.fromPort

/-- An offer names a port as from-port or to-port. -/
def OfferEntry.names (o : OfferEntry) (p : Port) : Bool := decide (o.fromPort = p) || decide (o.toPort = p)

/-- The page of an offer cut by a port reset returns to HELD, and OFFER-LAPSED is asked for the other party (R78). -/
def State.cutOffer (p : Port) (s : State) (o : OfferEntry) : State :=
  (s.backToHeld o.page).ask [.offerCutByReset o.page p (o.otherParty p)]

/-- The offer list's part of a port reset: every offer from or to the port is withdrawn, in list order (R78). -/
def State.cutOffers (s : State) (p : Port) : State :=
  (s.pageMap.offers.filter fun o => o.names p).foldl (State.cutOffer p)
    (s.setOffers (s.pageMap.offers.filter fun o => !o.names p))

/-- A record without a port among its recipients. -/
def NoticeRecord.without (p : Port) (r : NoticeRecord) : NoticeRecord :=
  { r with recipients := PortSet.without r.recipients p }

/-- The notice log's part of a port reset (R163). A request that waits needs nothing here: the log takes it while the
port is still in RESET, so the port is not in the set that is formed then (R159; execPrstRises, log entry 24). -/
def NoticeLog.forget (l : NoticeLog) (p : Port) : NoticeLog :=
  { l with records := (l.records.map (NoticeRecord.without p)).filter fun r => !PortSet.isEmpty r.recipients,
           lines := PortSet.without l.lines p }

/-- A port reset: the port, the offer list, the reservation table and the notice log each take it whole, in this
order (R32, R78, R102, R163; log entry 20). -/
def State.portReset (s : State) (p : Port) : State :=
  let s1 := (s.setPort p (s.port p).portReset).cutOffers p
  let s2 := s1.dropReservations fun e => decide (e.port = p)
  s2.setLog (s2.log.forget p)

/-- The level of a PRST pin changes. -/
def State.setPrst (s : State) (p : Port) (high : Bool) : State :=
  s.setPins { s.pins with prst := s.pins.prst.set p high }

/-- PRST_FALLS (R18, R32): an ACTIVE port takes a port reset. A port in RESET or ABSENT only has its pin change. -/
def execPrstFalls (p : Port) (s : State) : Host.Outcome State Fault Refusal :=
  if s.pins.nrst && s.isActive p then .next ((s.setPrst p false).portReset p) else .next (s.setPrst p false)

/-- A port enters ACTIVE by the rise of its PRST (R35). The log has then taken every request handed over while the
port was in RESET, so the port is in none of those records (R79, R132, R138, R151, R159, R171; log entry 24). -/
def State.enterActive (s : State) (p : Port) : State :=
  s.logTakesAll.setPort p (s.port p).enterActive

/-- PRST_RISES (R18, R35): with NRST high a port in RESET enters ACTIVE. -/
def execPrstRises (p : Port) (s : State) : Host.Outcome State Fault Refusal :=
  if s.pins.nrst && decide ((s.port p).state = .reset) then
    .next ((s.setPrst p true).enterActive p)
  else .next (s.setPrst p true)

end Sys2Proof.Machine
end

