-- ==== Sys2Proof/Machine/Notices.lean ====
section
/-! DEFINITION. The notice log: NOTICE_RECORD_CREATE and FETCH_NOTICE. -/
namespace Sys2Proof.Machine

/-- NOTICE_RECORD_CREATE (R155 to R157): the log takes the oldest request the block has handed over. With none that
it may take now, nothing is taken (log entries 9, 12 and 25). -/
def execNoticeRecordCreate (asker : Asker) (s : State) : Host.Outcome State Fault Refusal :=
  match s.log.takeable.find? (NoticeRequest.from asker) with
  | none => .next s
  | some r =>
    .next (s.setLog (NoticeLog.take { s.log with asked := s.log.asked.eraseP (NoticeRequest.from asker) } s.activePorts r))

/-- The oldest record whose recipient set holds a port, with the records after the port has fetched it: the port
leaves the set, and a record left with an empty set leaves the list (R160). -/
def fetchFor (p : Port) : List NoticeRecord → Option (NoticeImage × List NoticeRecord)
  | [] => none
  | r :: rest =>
    if r.recipients.get p then
      let left := r.without p
      some (r.image, if PortSet.isEmpty left.recipients then rest else left :: rest)
    else
      match fetchFor p rest with
      | none => none
      | some (i, l) => some (i, r :: l)

/-- Some record is held for a port. -/
def heldFor (p : Port) (l : List NoticeRecord) : Bool := l.any fun r => r.recipients.get p

/-- The log after a port has fetched a record; its line stays high while another record is held for it (R160,
R162). -/
def NoticeLog.fetched (l : NoticeLog) (p : Port) (records : List NoticeRecord) : NoticeLog :=
  { l with records := records, lines := PerPort.set l.lines p (heldFor p records) }

/-- FETCH_NOTICE (R160). -/
def execFetchNotice (p : Port) (s : State) : Host.Outcome State Fault Refusal :=
  match s.routed p .fetchNotice with
  | none => .next s
  | some m =>
    match fetchFor p s.log.records with
    | none => .next (s.answerStatus p m .noNotice)
    | some (i, l) =>
      .next ((s.setLog (s.log.fetched p l)).answer p { plainResponse m .ok with image := some (.notice i) })

end Sys2Proof.Machine
end

