-- ==== Sys2Proof/Machine/Pages.lean ====
section
/-! DEFINITION. The page requests: CLAIM, GRANT, REVOKE, OFFER, ACCEPT, WITHDRAW, RELEASE, PAGE_QUERY. Each is judged
by the checks of R61 in their order and answered in the same step (R60). -/
namespace Sys2Proof.Machine

/-- The reservations on words of a page that a rule names (R70, R101). -/
def Reservation.onPage (n : Nat) (e : Reservation) : Bool := decide (pageOf e.addr = n)

/-- A port's reservations on words of a page. -/
def Reservation.ofPortOnPage (p : Port) (n : Nat) (e : Reservation) : Bool := decide (e.port = p) && e.onPage n

/-- CLAIM's check: the page is FREE (R61, R63). -/
def judgeClaim (e : PageEntry) : Option Status :=
  match e.state with
  | .free => none
  | .held => some .taken
  | .offered => some .taken
  | .clearing => some .clearing

/-- The entry after a successful CLAIM; the correction history is kept (R62). -/
def PageEntry.claimed (e : PageEntry) (p : Port) (mode : GuardMode) : PageEntry :=
  { e with state := .held, owner := some p, readSet := PortSet.empty, writeSet := PortSet.empty, guardMode := mode }

/-- CLAIM (R62, R63). -/
def execClaim (p : Port) (s : State) : Host.Outcome State Fault Refusal :=
  match s.routed p .claim with
  | none => .next s
  | some m =>
    match judgeClaim (s.entry m.page) with
    | some st => .next (s.answerStatus p m st)
    | none => .next ((s.setEntry m.page ((s.entry m.page).claimed p m.guardMode)).answerStatus p m .ok)

/-- The owner check, then the page not OFFERED (R61). -/
def judgeOwner (e : PageEntry) (p : Port) : Option Status :=
  if !e.ownedBy p then some .notOwner
  else if e.state = .offered then some .pending
  else none

/-- The checks of GRANT: the owner check, not OFFERED, a target that is ACTIVE and not the owner (R61). -/
def judgeGrant (s : State) (e : PageEntry) (p target : Port) : Option Status :=
  match judgeOwner e p with
  | some st => some st
  | none => if s.isActive target && decide (e.owner ≠ some target) then none else some .badTarget

/-- The entry after a GRANT: the target in the read set, and in or out of the write set by the right (R64, R65). -/
def PageEntry.granted (e : PageEntry) (target : Port) (write : Bool) : PageEntry :=
  { e with readSet := PortSet.with e.readSet target, writeSet := PerPort.set e.writeSet target write }

/-- A successful GRANT; a downgrade drops the target's reservations on the page in the same step (R64, R65). -/
def State.grantRight (s : State) (n : Nat) (target : Port) (write : Bool) : State :=
  let e := s.entry n
  let s1 := s.setEntry n (e.granted target write)
  if !write && e.writeSet.get target then s1.dropReservations (Reservation.ofPortOnPage target n) else s1

/-- GRANT (R64, R65). -/
def execGrant (p : Port) (s : State) : Host.Outcome State Fault Refusal :=
  match s.routed p .grant with
  | none => .next s
  | some m =>
    match judgeGrant s (s.entry m.page) p m.target with
    | some st => .next (s.answerStatus p m st)
    | none => .next ((s.grantRight m.page m.target m.rightWrite).answerStatus p m .ok)

/-- The checks of REVOKE: as GRANT, but the target may be in RESET (R61, R67). -/
def judgeRevoke (s : State) (e : PageEntry) (p target : Port) : Option Status :=
  match judgeOwner e p with
  | some st => some st
  | none =>
    if decide ((s.port target).state ≠ .absent) && decide (e.owner ≠ some target) then none else some .badTarget

/-- The entry after a REVOKE (R67). -/
def PageEntry.revoked (e : PageEntry) (target : Port) : PageEntry :=
  { e with readSet := PortSet.without e.readSet target, writeSet := PortSet.without e.writeSet target }

/-- REVOKE (R67). -/
def execRevoke (p : Port) (s : State) : Host.Outcome State Fault Refusal :=
  match s.routed p .revoke with
  | none => .next s
  | some m =>
    match judgeRevoke s (s.entry m.page) p m.target with
    | some st => .next (s.answerStatus p m st)
    | none =>
      .next (((s.setEntry m.page ((s.entry m.page).revoked m.target)).dropReservations
        (Reservation.ofPortOnPage m.target m.page)).answerStatus p m .ok)

/-- The checks of OFFER: those of GRANT, then room in the offer list (R61, R72). -/
def judgeOffer (s : State) (e : PageEntry) (p target : Port) : Option Status :=
  match judgeGrant s e p target with
  | some st => some st
  | none => if s.pageMap.offers.length < Config.offerRoom then none else some .noRoom

/-- A successful OFFER: an entry at the tail with its timer started, the page OFFERED, and OFFER-MADE asked for
(R72). -/
def State.makeOffer (s : State) (n : Nat) (p target : Port) : State :=
  ((s.setEntry n { s.entry n with state := .offered }).setOffers
    (s.pageMap.offers ++
      [{ page := n, fromPort := p, toPort := target, timer := .running s.control.items.offerLifetime }])).ask
    [.offerMade n p target]

/-- OFFER (R72). -/
def execOffer (p : Port) (s : State) : Host.Outcome State Fault Refusal :=
  match s.routed p .offer with
  | none => .next s
  | some m =>
    match judgeOffer s (s.entry m.page) p m.target with
    | some st => .next (s.answerStatus p m st)
    | none => .next ((s.makeOffer m.page p m.target).answerStatus p m .ok)

/-- The offer entry an ACCEPT takes: the page is OFFERED and its entry names the requester as to-port (R61, R74). -/
def State.offerTo (s : State) (n : Nat) (p : Port) : Option OfferEntry :=
  match s.offerOf n with
  | none => none
  | some o => if (s.entry n).state = .offered ∧ o.toPort = p then some o else none

/-- The entry after an ACCEPT: HELD by the new owner with empty sets (R74). -/
def PageEntry.acceptedBy (e : PageEntry) (p : Port) : PageEntry :=
  { e with state := .held, owner := some p, readSet := PortSet.empty, writeSet := PortSet.empty }

/-- A successful ACCEPT: every reservation on the page is dropped, the offer entry is removed and PAGE-ACCEPTED is
asked for (R74). -/
def State.takeOver (s : State) (n : Nat) (p : Port) (o : OfferEntry) : State :=
  (((s.setEntry n ((s.entry n).acceptedBy p)).removeOffer n).dropReservations (Reservation.onPage n)).ask
    [.pageAccepted n o.fromPort p]

/-- ACCEPT (R74). -/
def execAccept (p : Port) (s : State) : Host.Outcome State Fault Refusal :=
  match s.routed p .accept with
  | none => .next s
  | some m =>
    match s.offerTo m.page p with
    | none => .next (s.answerStatus p m .noOffer)
    | some o => .next ((s.takeOver m.page p o).answerStatus p m .ok)

/-- The checks of WITHDRAW: the owner check, then the page OFFERED (R61, R75). -/
def judgeWithdraw (e : PageEntry) (p : Port) : Option Status :=
  if !e.ownedBy p then some .notOwner
  else if e.state = .offered then none
  else some .noOffer

/-- WITHDRAW (R75). -/
def execWithdraw (p : Port) (s : State) : Host.Outcome State Fault Refusal :=
  match s.routed p .withdraw with
  | none => .next s
  | some m =>
    match judgeWithdraw (s.entry m.page) p with
    | some st => .next (s.answerStatus p m st)
    | none => .next (((s.removeOffer m.page).backToHeld m.page).answerStatus p m .ok)

/-- The entry after a RELEASE: no owner, empty sets, guard mode OFF (R68). -/
def PageEntry.released (e : PageEntry) (clearing : Bool) : PageEntry :=
  { e with state := if clearing then .clearing else .free, owner := none, readSet := PortSet.empty,
           writeSet := PortSet.empty, guardMode := .off }

/-- A page released with clearing joins the clear queue at its tail; in an empty queue it is the head, with
progress 0 (R141). -/
def ClearEngine.append (c : ClearEngine) (n : Nat) : ClearEngine :=
  { queue := c.queue ++ [n], progress := if c.queue.isEmpty then 0 else c.progress }

/-- A successful RELEASE: every reservation on the page is dropped (R68). -/
def State.giveUp (s : State) (n : Nat) (clearing : Bool) : State :=
  let s1 := (s.setEntry n ((s.entry n).released clearing)).dropReservations (Reservation.onPage n)
  if clearing then s1.setClear (s1.clear.append n) else s1

/-- RELEASE (R68). -/
def execRelease (p : Port) (s : State) : Host.Outcome State Fault Refusal :=
  match s.routed p .release with
  | none => .next s
  | some m =>
    match judgeOwner (s.entry m.page) p with
    | some st => .next (s.answerStatus p m st)
    | none => .next ((s.giveUp m.page m.clearOption).answerStatus p m .ok)

/-- The page entry image of a page (R54); the offer target is taken from the offer list in the same step. -/
def State.pageImage (s : State) (n : Nat) : PageImage :=
  let e := s.entry n
  { page := n, state := e.state, owner := e.owner, readSet := e.readSet, writeSet := e.writeSet,
    guardMode := e.guardMode, offerTarget := (s.offerOf n).map OfferEntry.toPort, corrected := e.corrected,
    weak := e.weak }

/-- PAGE_QUERY (R54). -/
def execPageQuery (p : Port) (s : State) : Host.Outcome State Fault Refusal :=
  match s.routed p .pageQuery with
  | none => .next s
  | some m => .next (s.answer p { plainResponse m .ok with image := some (.page (s.pageImage m.page)) })

end Sys2Proof.Machine
end

