-- ==== Sys2Proof/Machine/Reservations.lean ====
section
/-! DEFINITION. UNLOCK, the one request the reservation table takes whole. -/
namespace Sys2Proof.Machine

/-- UNLOCK (R97): the requester's entry on the word is removed and parking re-evaluated, answered OK; without such an
entry LAPSED, and nothing changes. -/
def execUnlock (p : Port) (s : State) : Host.Outcome State Fault Refusal :=
  match s.routed p .unlock with
  | none => .next s
  | some m =>
    if heldBy s.table.entries p m.addr then
      .next ((s.dropReservations (Reservation.isOn p m.addr)).answerStatus p m .ok)
    else .next (s.answerStatus p m .lapsed)

end Sys2Proof.Machine
end

