-- ==== Sys2Proof/Machine/Sequencer.lean ====
section
/-! DEFINITION. The memory sequencer after the grant: READING_ENDS and the completions. -/
namespace Sys2Proof.Machine

/-! ### The end of READING -/

/-- The guard check refuses the write: ON at grant, corrected guard 1, requester not owner (R116). -/
def guardRefuses (t : PortTerms) (read : Guarded) : Bool :=
  t.guardMode.isOn && read.guard && !t.isOwner

/-- The guard stored by an operation that has read the word (R116). -/
def guardToStore (t : PortTerms) (read : Guarded) : Bool :=
  storedGuard t.guardMode (t.msg.judgedAction t.kind) read.guard

/-- The data and guard a CHECKED-STORE or MERGE settles on a correctable read: nothing when the guard check refuses
(R116, R119, R120). -/
def settleWrite (merge : Bool) (t : PortTerms) (read : Guarded) : Option Guarded :=
  if guardRefuses t read then none
  else
    some { data := if merge then mergeBytes t.msg.byteMask t.msg.data read.data else t.msg.data,
           guard := guardToStore t read }

/-- What the operation writes after its read phase: nothing on an uncorrectable word (R8); the corrected word on a
write-back (R10, R117, R122); what R119 and R120 settle for CHECKED-STORE and MERGE. -/
def settle (writeBack : Bool) (o : Operation) (d : DecodeResult) : Option Guarded :=
  match d.corrected, o.kind, o.served with
  | some c, .read, _ => if d.isSingle && writeBack then some c else none
  | some c, .scrub, _ => if d.isSingle then some c else none
  | some c, .checkedStore, .port t => settleWrite false t c
  | some c, .merge, .port t => settleWrite true t c
  | _, _, _ => none

/-- The operation once its word has been decoded: it enters WRITING when it writes (R114). -/
def Operation.afterRead (o : Operation) (d : DecodeResult) (w : Option Guarded) : Operation :=
  { o with decoded := some d, settled := w, phase := if w.isSome then .writing else .reading }

/-- The word an operation in READING reads, before its read phase has ended. -/
def Operation.wordBeingRead (o : Operation) : Option Nat :=
  match o.phase, o.decoded, o.target with
  | .reading, none, .word a => some a
  | _, _, _ => none

/-- READING ends on a word: what the DRAM has changed since stands in the array, the word is decoded and the
operation settles what it writes (R114). -/
def State.endReading (s : State) (o : Operation) (a : Nat) (flips : StoredWord) : State :=
  let stored := s.array.read a ^^^ flips
  let d := decode stored
  (s.setArray (s.array.write a stored)).setSequencer (some (o.afterRead d (settle s.control.items.writeBack o d)))

/-- READING_ENDS (R114). -/
def execReadingEnds (flips : StoredWord) (s : State) : Host.Outcome State Fault Refusal :=
  match s.sequencer with
  | none => .next s
  | some o =>
    match o.wordBeingRead with
    | none => .next s
    | some a => .next (s.endReading o a flips)

/-! ### Completion (R124) -/

/-- The operation's last phase has run: it is in WRITING or REFRESHING, or its read phase has ended with nothing to
write (R114; log entry 14). -/
def Operation.lastPhase (o : Operation) : Bool :=
  match o.phase with
  | .writing => true
  | .refreshing => true
  | .reading => o.decoded.isSome

/-- The operation in flight, when it is of a kind and may complete. -/
def State.completing (s : State) (k : OpKind) : Option Operation :=
  match s.sequencer with
  | none => none
  | some o => if o.kind = k ∧ o.lastPhase then some o else none

/-- The array after the operation: the word settled is stored encoded (R3), at the address the operation names. -/
def State.landWrite (s : State) (o : Operation) : State :=
  match o.settled, o.target with
  | some g, .word a => s.setArray (s.array.write a (encode g))
  | some _, .row _ => s
  | none, _ => s

/-- Who found what the operation read (R153). REFRESH and CLEAR read nothing (R11), so what stands for them here is
never used. -/
def Operation.finder (o : Operation) : Finder :=
  match o.served with
  | .port t => .port t.port
  | .refreshController => .scrub
  | .clearEngine => .scrub
  | .scrubEngine => .scrub

/-- A SINGLE of subclass DATA or GUARD is counted against the page; CHECK is not (R6, R51). -/
def Subclass.counted : Subclass → Bool
  | .data => true
  | .guard => true
  | .check => false

/-- An increment brings the corrected count to the weak threshold on a page not reported before (R52). -/
def PageEntry.turnsWeak (e : PageEntry) (threshold : Nat) : Bool := decide (e.corrected + 1 = threshold) && !e.weak

/-- The entry after a counted correction (R51, R52). -/
def PageEntry.countCorrection (e : PageEntry) (threshold : Nat) : PageEntry :=
  { e with corrected := min 255 (e.corrected + 1), weak := e.weak || e.turnsWeak threshold }

/-- The correction report of a SINGLE word (R123): the count, then CORRECTED when corrected logging is on, then
WEAK-PAGE when the count reaches the threshold. -/
def State.reportSingle (s : State) (a : Nat) (syn : BitVec 6) (sub : Subclass) (f : Finder) : State :=
  let n := pageOf a
  let e := s.entry n
  let threshold := s.control.items.weakThreshold
  let s1 := if sub.counted then s.setEntry n (e.countCorrection threshold) else s
  s1.ask ((if s.control.items.logging then [.corrected a n syn sub f e.info] else []) ++
    (if sub.counted && e.turnsWeak threshold then [.weakPage n e.info] else []))

/-- The report of an uncorrectable word, whatever corrected logging holds (R121). -/
def State.reportUncorrectable (s : State) (a : Nat) (syn : BitVec 6) (double : Bool) (f : Finder) : State :=
  s.ask [.uncorrectable a (pageOf a) syn double f (s.entry (pageOf a)).info]

/-- The reports of a completion by the class of the word read (R121, R123, R124). -/
def State.report (s : State) (a : Nat) (d : DecodeResult) (f : Finder) : State :=
  match d.cls with
  | .clean => s
  | .single sub _ => s.reportSingle a d.syndrome sub f
  | .double => s.reportUncorrectable a d.syndrome true f
  | .multiple => s.reportUncorrectable a d.syndrome false f

/-- The reports of an operation: those of the word it read, and none for one that reads nothing (R11). -/
def State.reportOf (s : State) (o : Operation) : State :=
  match o.decoded, o.target with
  | some d, .word a => s.report a d o.finder
  | some _, .row _ => s
  | none, _ => s

/-- The timers of the entries a rule names are restarted (R91). -/
def restartTimers (l : List Reservation) (p : Port) (a lifetime : Nat) : List Reservation :=
  l.map fun e => if e.isOn p a then { e with timer := .running lifetime } else e

/-- The reservation effect of a completed LOCKED-READ (R91): none when the read was uncorrectable, under the orphan
mark, or when the requester may no longer write the page; a restart when it holds the word; else a new entry. -/
def State.reserve (s : State) (p : Port) (a : Nat) (d : DecodeResult) : State :=
  let lifetime := s.control.items.reservationLifetime
  if d.uncorrectable || (s.port p).orphan || !(s.entry (pageOf a)).mayWrite p then s
  else if heldBy s.table.entries p a then
    s.setTable { s.table with entries := restartTimers s.table.entries p a lifetime }
  else s.setReservations (s.table.entries ++ [{ port := p, addr := a, timer := .running lifetime }])

/-- The reservation effect of an operation: that of R91 for a LOCKED-READ, else none. -/
def State.reserveOf (s : State) (o : Operation) (t : PortTerms) : State :=
  match t.kind, o.decoded with
  | .lockedRead, some d => s.reserve t.port t.msg.addr d
  | _, _ => s

/-- The response of a READ operation (R117, R125). -/
def readResponse (t : PortTerms) (d : DecodeResult) : Response :=
  match d.corrected with
  | none => plainResponse t.msg .dataLost
  | some c =>
    { tag := t.msg.tag, status := .ok, corrected := d.isSingle, data := some c.data,
      guard := if t.guardMode.isOn then some c.guard else none, image := none }

/-- The response of a CHECKED-STORE or MERGE (R119, R120, R125). -/
def checkedResponse (t : PortTerms) (d : DecodeResult) (written : Bool) : Response :=
  match d.corrected with
  | none => plainResponse t.msg .dataLost
  | some _ => { plainResponse t.msg (if written then .ok else .guarded) with corrected := d.isSingle }

/-- The response of a port operation (R125). An operation without a read phase is a STORE, answered OK (R118). -/
def responseOf (o : Operation) (t : PortTerms) : Response :=
  match o.decoded with
  | none => plainResponse t.msg .ok
  | some d => if o.kind = .read then readResponse t d else checkedResponse t d o.settled.isSome

/-- The answer goes to the port, or nowhere under the orphan mark, which is then removed (R33, R124). -/
def State.giveAnswer (s : State) (t : PortTerms) (resp : Response) : State :=
  if (s.port t.port).orphan then s.setPort t.port { s.port t.port with orphan := false } else s.answer t.port resp

/-- A port operation's own results: the reservation effect, then the answer (R124, steps 3 and 4). -/
def State.servePort (s : State) (o : Operation) : State :=
  match o.served with
  | .port t => (s.reserveOf o t).giveAnswer t (responseOf o t)
  | .refreshController => s
  | .clearEngine => s
  | .scrubEngine => s

/-- What every completion does before an engine takes its own: the write lands, the reports are made, a port is
served, and the sequencer falls idle (R124). -/
def State.complete (s : State) (o : Operation) : State :=
  (((s.landWrite o).reportOf o).servePort o).setSequencer none

/-- READ_OP_COMPLETES (R117, R124). -/
def execReadOpCompletes (s : State) : Host.Outcome State Fault Refusal :=
  match s.completing .read with
  | none => .next s
  | some o => .next (s.complete o)

/-- STORE_COMPLETES (R118, R124). -/
def execStoreCompletes (s : State) : Host.Outcome State Fault Refusal :=
  match s.completing .store with
  | none => .next s
  | some o => .next (s.complete o)

/-- CHECKED_STORE_COMPLETES (R119, R124). -/
def execCheckedStoreCompletes (s : State) : Host.Outcome State Fault Refusal :=
  match s.completing .checkedStore with
  | none => .next s
  | some o => .next (s.complete o)

/-- MERGE_COMPLETES (R120, R124). -/
def execMergeCompletes (s : State) : Host.Outcome State Fault Refusal :=
  match s.completing .merge with
  | none => .next s
  | some o => .next (s.complete o)

/-- The refresh controller takes a completion: the owed count falls by 1, the row counter advances, from 8191 to 0
(R134). -/
def RefreshController.completed (r : RefreshController) : RefreshController :=
  { r with owed := r.owed - 1, row := r.row + 1#13 }

/-- REFRESH_COMPLETES (R134). -/
def execRefreshCompletes (s : State) : Host.Outcome State Fault Refusal :=
  match s.completing .refresh with
  | none => .next s
  | some o =>
    let c := s.complete o
    .next (c.setRefresh c.refresh.completed)

/-- The end of the INIT clear: SETUP, and READY is asked for (R167). The log has then taken every request handed over
in INIT, so their records come before READY and are created in INIT (R132, R164, R167; log entry 25). -/
def State.endInitClear (s : State) : State :=
  (s.logTakesAll.setControl { s.control with device := .setup }).ask [.ready]

/-- The last word of the head page has been cleared: the page is FREE and leaves the queue; an emptied queue ends
INIT (R143). -/
def State.finishPage (s : State) (n : Nat) (rest : List Nat) : State :=
  let s1 := (s.setEntry n { s.entry n with state := .free }).setClear { queue := rest, progress := 0 }
  if rest.isEmpty && decide (s.control.device = .init) then s1.endInitClear else s1

/-- The clear engine takes a completion (R143). -/
def State.advanceClear (s : State) : State :=
  match s.clear.queue with
  | [] => s
  | n :: rest =>
    if s.clear.progress + 1 < Config.pageWords then s.setClear { s.clear with progress := s.clear.progress + 1 }
    else s.finishPage n rest

/-- CLEAR_COMPLETES (R143). -/
def execClearCompletes (s : State) : Host.Outcome State Fault Refusal :=
  match s.completing .clear with
  | none => .next s
  | some o => .next (s.complete o).advanceClear

/-- The scrub engine takes a completion: the position advances, from the last word to 0 with one pass more, and the
pending flag clears (R149). -/
def ScrubEngine.completed (c : ScrubEngine) (size : Nat) : ScrubEngine :=
  if c.position + 1 < size then { c with position := c.position + 1, pending := false }
  else { c with position := 0, passes := c.passes + 1#16, pending := false }

/-- SCRUB_COMPLETES (R149). -/
def execScrubCompletes (s : State) : Host.Outcome State Fault Refusal :=
  match s.completing .scrub with
  | none => .next s
  | some o =>
    let c := s.complete o
    .next (c.setScrub (c.scrub.completed c.size))

end Sys2Proof.Machine
end

