-- ==== Sys2Proof/Machine/Timers.lean ====
section
/-! DEFINITION. Timers that run out: REFRESH_INTERVAL_RUNS_OUT, SCRUB_INTERVAL_RUNS_OUT,
RESERVATION_LIFETIME_RUNS_OUT, OFFER_LIFETIME_RUNS_OUT. A stopped timer does not run out (log entry 9). -/
namespace Sys2Proof.Machine

/-- The timer runs. -/
def Timer.isRunning : Timer → Bool
  | .stopped => false
  | .running _ => true

/-- The refresh controller takes a running out (R130, R131): the owed count rises below 8, and the timer restarts at
the configured interval. -/
def RefreshController.ranOut (r : RefreshController) (interval : Nat) : RefreshController :=
  { r with owed := if r.owed < Config.owedLimit then r.owed + 1 else r.owed, timer := .running interval }

/-- REFRESH_INTERVAL_RUNS_OUT (R131): with 8 owed, REFRESH-OVERRUN is asked for (R132). -/
def execRefreshIntervalRunsOut (s : State) : Host.Outcome State Fault Refusal :=
  if s.refresh.timer.isRunning then
    let s1 := s.setRefresh (s.refresh.ranOut s.control.items.refreshInterval)
    .next (if s.refresh.owed < Config.owedLimit then s1 else s1.ask [.refreshOverrun])
  else .next s

/-- SCRUB_INTERVAL_RUNS_OUT (R147): the pending flag is set, or stays set, and the timer restarts. -/
def execScrubIntervalRunsOut (s : State) : Host.Outcome State Fault Refusal :=
  if s.scrub.timer.isRunning then
    .next (s.setScrub { s.scrub with pending := true, timer := .running s.control.items.scrubInterval })
  else .next s

/-- RESERVATION_LIFETIME_RUNS_OUT (R98): the entry on the word is removed and parking re-evaluated; no notice. -/
def execReservationLifetimeRunsOut (addr : Nat) (s : State) : Host.Outcome State Fault Refusal :=
  if s.table.entries.any fun e => decide (e.addr = addr) then
    .next (s.dropReservations fun e => decide (e.addr = addr))
  else .next s

/-- OFFER_LIFETIME_RUNS_OUT (R76): the entry is removed, the page returns to HELD, OFFER-LAPSED is asked for both
parties. -/
def execOfferLifetimeRunsOut (page : Nat) (s : State) : Host.Outcome State Fault Refusal :=
  match s.offerOf page with
  | none => .next s
  | some o => .next (((s.removeOffer page).backToHeld page).ask [.offerExpired page o.fromPort o.toPort])

end Sys2Proof.Machine
end

