-- ==== Sys2Proof/Machine/Dispatch.lean ====
section
/-! DEFINITION. One arm per command: a direct call of its meaning. -/
namespace Sys2Proof.Machine

-- The effect of a command on everything but the queue of waiting commands.
def exec (i : Instr) (s : State) : Host.Outcome State Fault Refusal :=
  match i with
  | .nrstFalls => Sys2Proof.Machine.execNrstFalls s
  | .nrstRises msize pen => Sys2Proof.Machine.execNrstRises msize pen s
  | .prstFalls p => Sys2Proof.Machine.execPrstFalls p s
  | .prstRises p => Sys2Proof.Machine.execPrstRises p s
  | .linkUpDelivered p => Sys2Proof.Machine.execLinkUpDelivered p s
  | .requestArrives p w0 w1 w2 => Sys2Proof.Machine.execRequestArrives p w0 w1 w2 s
  | .responseDelivered p => Sys2Proof.Machine.execResponseDelivered p s
  | .read p => Sys2Proof.Machine.execRead p s
  | .write p => Sys2Proof.Machine.execWrite p s
  | .mergeWrite p => Sys2Proof.Machine.execMergeWrite p s
  | .lockedRead p => Sys2Proof.Machine.execLockedRead p s
  | .condWrite p => Sys2Proof.Machine.execCondWrite p s
  | .refreshGrant => Sys2Proof.Machine.execRefreshGrant s
  | .clearGrant => Sys2Proof.Machine.execClearGrant s
  | .scrubGrant => Sys2Proof.Machine.execScrubGrant s
  | .readingEnds flips => Sys2Proof.Machine.execReadingEnds flips s
  | .readOpCompletes => Sys2Proof.Machine.execReadOpCompletes s
  | .storeCompletes => Sys2Proof.Machine.execStoreCompletes s
  | .checkedStoreCompletes => Sys2Proof.Machine.execCheckedStoreCompletes s
  | .mergeCompletes => Sys2Proof.Machine.execMergeCompletes s
  | .refreshCompletes => Sys2Proof.Machine.execRefreshCompletes s
  | .clearCompletes => Sys2Proof.Machine.execClearCompletes s
  | .scrubCompletes => Sys2Proof.Machine.execScrubCompletes s
  | .refreshIntervalRunsOut => Sys2Proof.Machine.execRefreshIntervalRunsOut s
  | .scrubIntervalRunsOut => Sys2Proof.Machine.execScrubIntervalRunsOut s
  | .reservationLifetimeRunsOut addr => Sys2Proof.Machine.execReservationLifetimeRunsOut addr s
  | .offerLifetimeRunsOut page => Sys2Proof.Machine.execOfferLifetimeRunsOut page s
  | .unlock p => Sys2Proof.Machine.execUnlock p s
  | .claim p => Sys2Proof.Machine.execClaim p s
  | .grant p => Sys2Proof.Machine.execGrant p s
  | .revoke p => Sys2Proof.Machine.execRevoke p s
  | .offer p => Sys2Proof.Machine.execOffer p s
  | .accept p => Sys2Proof.Machine.execAccept p s
  | .withdraw p => Sys2Proof.Machine.execWithdraw p s
  | .release p => Sys2Proof.Machine.execRelease p s
  | .pageQuery p => Sys2Proof.Machine.execPageQuery p s
  | .fetchNotice p => Sys2Proof.Machine.execFetchNotice p s
  | .ctlRead p => Sys2Proof.Machine.execCtlRead p s
  | .ctlWrite p => Sys2Proof.Machine.execCtlWrite p s
  | .lostCount p => Sys2Proof.Machine.execLostCount p s
  | .start p => Sys2Proof.Machine.execStart p s
  | .noticeRecordCreate asker => Sys2Proof.Machine.execNoticeRecordCreate asker s

end Sys2Proof.Machine
end

