-- ==== Sys2Proof/Safety.lean ====
section
/-! DEFINITION. The invariants that claims about every state assume and keep, block by block, in the words of the
rules that state them, `State.Inv` being their conjunction; and the words in which claims about one command are made:
the frame, an answer, a refusal, the reports of a completion. -/
namespace Sys2Proof.Machine

/-! ### The array -/

/-- The array stands in its canonical form. -/
def State.ArraySound (s : State) : Prop := s.array.wf = true

/-! ### Ports -/

/-- The number of current requests a port has, 0 or 1 (R24). -/
def PortRecord.currentCount (r : PortRecord) : Nat := if r.current.isSome then 1 else 0

/-- The outstanding count is what R19 says it equals and does not exceed 8; a request waits in the queue only behind
a current one (R24); a port that is not ACTIVE holds nothing (the table before R16). -/
structure PortRecord.Sound (r : PortRecord) : Prop where
  counted : r.outstanding = r.queue.length + r.currentCount + r.responses.length
  credits : r.outstanding ≤ 8
  served : r.current = none → r.queue = []
  idle : r.state ≠ .active → r.outstanding = 0 ∧ r.linkUp = false ∧ r.channel = none

/-- Every port is sound, and a current request has passed the port's checks (R24 to R28). -/
structure State.PortsSound (s : State) : Prop where
  sound : ∀ p, (s.port p).Sound
  checked : ∀ p c, (s.port p).current = some c → s.portCheck c.msg = none

/-- While NRST is low the part stands at its reset values; only the PRST levels, the array and the model's own
counter and queue are its own (R17, R139, R152, R164). -/
def State.ColdResetSound (s : State) : Prop :=
  s.pins.nrst = false →
    s = { State.reset with
      pins := { nrst := false, prst := s.pins.prst }, array := s.array, freeDraws := s.freeDraws, pending := s.pending }

/-- With NRST high, the ports that are ABSENT are those whose latched PEN strap is low, and the ports that are ACTIVE
are those whose PEN strap was high and whose PRST pin is high (R16, R17). -/
def State.PinsSound (s : State) : Prop :=
  s.pins.nrst = true →
    ∀ p, ((s.port p).state = .absent ↔ s.control.straps.pen.get p = false) ∧
      ((s.port p).state = .active ↔ s.control.straps.pen.get p = true ∧ s.pins.prst.get p = true)

/-! ### The page map -/

/-- R41 and R42 for one entry, and the bound of its count (R51). -/
structure PageEntry.Sound (s : State) (e : PageEntry) : Prop where
  owned : e.isHeld = true → e.owner.isSome = true
  unowned : e.isHeld = false →
    e.owner = none ∧ e.readSet = PortSet.empty ∧ e.writeSet = PortSet.empty ∧ e.guardMode = .off
  nested : ∀ p, e.writeSet.get p = true → e.readSet.get p = true
  notOwner : ∀ p, e.readSet.get p = true → e.owner ≠ some p
  present : ∀ p, (e.readSet.get p = true ∨ e.owner = some p) → (s.port p).state ≠ .absent
  count : e.corrected ≤ 255

/-- One entry for each configured page (R40), each in the form of R41 and R42. -/
structure State.EntriesSound (s : State) : Prop where
  count : s.pins.nrst = true → s.pageMap.entries.length = s.pageCount
  sound : ∀ e ∈ s.pageMap.entries, e.Sound s

/-- R71: at most 8 entries, no two for one page, a page OFFERED exactly when an entry names it, the from-port its
owner, and both parties ACTIVE. -/
structure State.OffersSound (s : State) : Prop where
  room : s.pageMap.offers.length ≤ 8
  distinct : (s.pageMap.offers.map OfferEntry.page).Nodup
  offered : ∀ n, (s.entry n).state = .offered ↔ n ∈ s.pageMap.offers.map OfferEntry.page
  owner : ∀ o ∈ s.pageMap.offers, (s.entry o.page).owner = some o.fromPort
  parties : ∀ o ∈ s.pageMap.offers,
    o.fromPort ≠ o.toPort ∧ (s.port o.fromPort).state = .active ∧ (s.port o.toPort).state = .active

/-! ### The reservation table -/

/-- R83: at most two entries for a port, never two for a word, every entry in range, of an ACTIVE port, on a page
its port may write. -/
structure State.ReservationsSound (s : State) : Prop where
  perPort : ∀ p, (reservationsOf s.table.entries p).length ≤ 2
  distinct : (s.table.entries.map Reservation.addr).Nodup
  inRange : ∀ e ∈ s.table.entries, e.addr < s.size
  active : ∀ e ∈ s.table.entries, (s.port e.port).state = .active
  writable : ∀ e ∈ s.table.entries, (s.entry (pageOf e.addr)).mayWrite e.port = true

/-- R86: a port's current request is parked on a word: it waits in ROUTED, it is a WRITE, a MERGE-WRITE or a LOCKED-READ of
that word, and an entry of another port is on the word. -/
def Parked (entries : List Reservation) (p : Port) (current : Option CurrentRequest) (a : Nat) : Prop :=
  ∃ m, current = some { msg := m, phase := .routed } ∧ m.addr = a ∧
    (m.kind = some .write ∨ m.kind = some .mergeWrite ∨ m.kind = some .lockedRead) ∧
    ∃ e ∈ entries, e.addr = a ∧ e.port ≠ p

/-- R84, R87: the parking mark of a port names the word its current request is parked on, and is clear when it is not
parked. -/
def MarkedRight (entries : List Reservation) (p : Port) (current : Option CurrentRequest) (mark : Option Nat) : Prop :=
  ∀ a, mark = some a ↔ Parked entries p current a

/-- Every parking mark is the one the port's current request calls for (R84, R86, R87). -/
def State.ParkingSound (s : State) : Prop :=
  ∀ p, MarkedRight s.table.entries p (s.port p).current (s.table.parking.get p)

/-! ### The sequencer -/

/-- The operation in flight serves a port. -/
def State.servesPort (s : State) (p : Port) : Prop :=
  ∃ o t, s.sequencer = some o ∧ o.served = .port t ∧ t.port = p

/-- What an operation that serves a port is (R114, R115): the kind of R115, on the request's word, in RUN. While it
is a LOCKED-READ in flight no other port holds its word and its own port has room for the entry (R86, R90). -/
structure PortTerms.Sound (s : State) (o : Operation) (t : PortTerms) : Prop where
  kind : t.msg.kind = some t.kind ∧ t.kind.isMemory = true
  operation : o.kind = operationKind t.kind t.guardMode (t.msg.judgedAction t.kind)
  target : o.target = .word t.msg.addr
  inRange : t.msg.addr < s.size
  running : s.control.device = .run
  current : (s.port t.port).orphan = false → (s.port t.port).current = some { msg := t.msg, phase := .granted }
  room : t.kind = .lockedRead →
    heldByOther s.table.entries t.port t.msg.addr = false ∧ noRoom s.table.entries t.port t.msg.addr = false

/-- What an operation that serves an engine or a port is (R114). -/
def Operation.ServedSound (s : State) (o : Operation) : Prop :=
  match o.served with
  | .port t => t.Sound s o
  | .refreshController => o.kind = .refresh ∧ o.target = .row s.refresh.row ∧ 1 ≤ s.refresh.owed
  | .clearEngine => o.kind = .clear ∧ o.target = .word s.clear.nextWord ∧ s.clear.queue ≠ [] ∧
      o.settled = some { data := 0#32, guard := false }
  | .scrubEngine => o.kind = .scrub ∧ o.target = .word s.scrub.position ∧ s.control.device = .run

/-- The phases of R114: STORE and CLEAR write without reading; READ, CHECKED-STORE, MERGE and SCRUB read, and write
when they have settled a word; REFRESH refreshes. -/
def Operation.PhaseSound (o : Operation) : Prop :=
  match o.kind with
  | .store => o.phase = .writing ∧ o.decoded = none ∧ o.settled.isSome = true
  | .clear => o.phase = .writing ∧ o.decoded = none ∧ o.settled.isSome = true
  | .refresh => o.phase = .refreshing ∧ o.decoded = none ∧ o.settled = none
  | .read => o.phase = (if o.settled.isSome then .writing else .reading) ∧ (o.decoded = none → o.settled = none)
  | .checkedStore => o.phase = (if o.settled.isSome then .writing else .reading) ∧ (o.decoded = none → o.settled = none)
  | .merge => o.phase = (if o.settled.isSome then .writing else .reading) ∧ (o.decoded = none → o.settled = none)
  | .scrub => o.phase = (if o.settled.isSome then .writing else .reading) ∧ (o.decoded = none → o.settled = none)

/-- The operation in flight is sound; a port stands in GRANTED, or has the orphan mark, only while the operation in
flight is its own, and not both (R24, R33). -/
structure State.SequencerSound (s : State) : Prop where
  phase : ∀ o, s.sequencer = some o → o.PhaseSound
  served : ∀ o, s.sequencer = some o → o.ServedSound s
  granted : ∀ p, (s.port p).isGranted = true → s.servesPort p ∧ (s.port p).orphan = false
  orphan : ∀ p, (s.port p).orphan = true → s.servesPort p

/-! ### Engines, log and control block -/

/-- The counts stay in their ranges (R104, R109, R110, R129, R131). -/
structure State.CountsSound (s : State) : Prop where
  owed : s.refresh.owed ≤ 8
  streak : s.arbiter.streak ≤ 8
  share : s.arbiter.clearShare ≤ 16

/-- R140: the clear queue holds exactly the CLEARING pages, each once; progress is an offset, 0 when the queue is
empty. -/
structure State.ClearSound (s : State) : Prop where
  distinct : s.clear.queue.Nodup
  exact : ∀ n, n ∈ s.clear.queue ↔ n < s.pageMap.entries.length ∧ (s.entry n).state = .clearing
  progress : s.clear.progress < Config.pageWords
  empty : s.clear.queue = [] → s.clear.progress = 0

/-- R154, R162: at most 16 records, each with a non-empty recipient set of ACTIVE ports; the lost count in range;
each line high exactly while a record is held for its port. READY, while it waits, is the oldest request that waits
(R164, R167; log entry 25). -/
structure State.LogSound (s : State) : Prop where
  room : s.log.records.length ≤ 16
  lost : s.log.lost ≤ 255
  nonempty : ∀ r ∈ s.log.records, PortSet.isEmpty r.recipients = false
  active : ∀ r ∈ s.log.records, ∀ p, r.recipients.get p = true → (s.port p).state = .active
  lines : ∀ p, s.log.lines.get p = heldFor p s.log.records
  readyFirst : NoticeRequest.ready ∉ s.log.asked.tail

/-- The items lie in their ranges (R172). -/
structure ConfigItems.Sound (c : ConfigItems) : Prop where
  refresh : 1 ≤ c.refreshInterval ∧ c.refreshInterval ≤ 31
  scrub : c.scrubInterval ≤ 65535
  reservation : 1 ≤ c.reservationLifetime ∧ c.reservationLifetime ≤ 65535
  offer : 1 ≤ c.offerLifetime ∧ c.offerLifetime ≤ 65535
  weak : c.weakThreshold ≤ 255

/-- Before RUN nothing is offered or reserved, no page is HELD, nothing is scrubbed (R57, R71, R103, R113, R147);
the scrub position names a word of the array (R146). -/
structure State.BeforeRunSound (s : State) : Prop where
  quiet : s.control.device ≠ .run →
    s.pageMap.offers = [] ∧ s.table.entries = [] ∧ s.scrub.pending = false ∧ s.scrub.timer = .stopped ∧
      ∀ e ∈ s.pageMap.entries, e.isHeld = false ∧ e.corrected = 0 ∧ e.weak = false
  setup : s.control.device = .setup → s.clear.queue = []
  position : s.scrub.position < s.size

/-- The INIT clear (R15, R145): in INIT the queue is what is left of the pages in ascending order and every word
before the next one to be cleared reads as 40 zero bits; in SETUP every word of the configured array does. -/
structure State.InitClearSound (s : State) : Prop where
  clearing : s.control.device = .init → s.pins.nrst = true →
    ∃ k, k < s.pageCount ∧ s.clear.queue = List.range' k (s.pageCount - k) ∧
      ∀ a, a < k * Config.pageWords + s.clear.progress → s.array.read a = 0#40
  cleared : s.control.device = .setup → ∀ a, a < s.size → s.array.read a = 0#40

/-- The whole invariant. -/
structure State.Inv (s : State) : Prop where
  array : s.ArraySound
  ports : s.PortsSound
  coldReset : s.ColdResetSound
  pins : s.PinsSound
  entries : s.EntriesSound
  offers : s.OffersSound
  reservations : s.ReservationsSound
  parking : s.ParkingSound
  sequencer : s.SequencerSound
  counts : s.CountsSound
  clear : s.ClearSound
  log : s.LogSound
  items : s.control.items.Sound
  beforeRun : s.BeforeRunSound
  initClear : s.InitClearSound

/-! ### What claims about one command say -/

/-- The command answers a next state, and that state meets a condition. -/
abbrev Completes (i : Instr) (s : State) (post : State → Prop) : Prop := ∃ t, exec i s = .next t ∧ post t

/-- The parts of the state that a frame names. -/
inductive Block where
  | pins
  | ports
  | entries
  | offers
  | reservations
  | parking
  | arbiter
  | sequencer
  | refresh
  | clear
  | scrub
  | records
  | sequence
  | lost
  | lines
  | asked
  | control
  | array
  | freeDraws
  | pending
deriving DecidableEq, Repr

/-- A part of the state is the same in two states. -/
def State.SameBlock (s t : State) : Block → Prop
  | .pins => t.pins = s.pins
  | .ports => t.ports = s.ports
  | .entries => t.pageMap.entries = s.pageMap.entries
  | .offers => t.pageMap.offers = s.pageMap.offers
  | .reservations => t.table.entries = s.table.entries
  | .parking => t.table.parking = s.table.parking
  | .arbiter => t.arbiter = s.arbiter
  | .sequencer => t.sequencer = s.sequencer
  | .refresh => t.refresh = s.refresh
  | .clear => t.clear = s.clear
  | .scrub => t.scrub = s.scrub
  | .records => t.log.records = s.log.records
  | .sequence => t.log.sequence = s.log.sequence
  | .lost => t.log.lost = s.log.lost
  | .lines => t.log.lines = s.log.lines
  | .asked => t.log.asked = s.log.asked
  | .control => t.control = s.control
  | .array => t.array = s.array
  | .freeDraws => t.freeDraws = s.freeDraws
  | .pending => t.pending = s.pending

/-- The frame: every part of the state stands, except perhaps those listed. -/
def State.ChangesOnly (s t : State) (changed : List Block) : Prop := ∀ b, b ∉ changed → s.SameBlock t b

/-- Every port but one stands. -/
def State.OthersStand (s t : State) (p : Port) : Prop := ∀ q, q ≠ p → t.port q = s.port q

/-- The port's current request is a message of a kind, waiting in ROUTED (R24, R28). -/
abbrev State.Routed (s : State) (p : Port) (m : Request) (k : RequestKind) : Prop :=
  (s.port p).current = some { msg := m, phase := .routed } ∧ m.kind = some k

/-- The port's current request is answered with a response and the port takes its next request; no other port
changes (R24, R30). What a port's taking of its next request does is claimed on its own. -/
def State.AnsweredWith (s t : State) (p : Port) (r : Response) : Prop :=
  t.port p = ((s.port p).answered r).becomeCurrent t.portCheck ∧ s.OthersStand t p

/-- Parking is evaluated afresh for one port (R86, R87), and the marks of the others stand. -/
def State.Remarked (s t : State) (p : Port) : Prop :=
  MarkedRight t.table.entries p (t.port p).current (t.table.parking.get p) ∧
    ∀ q, q ≠ p → t.table.parking.get q = s.table.parking.get q

/-- A request is turned away: answered with a status and no payload, and nothing else changes (R37, R60). -/
def State.RefusedWith (s t : State) (p : Port) (m : Request) (st : Status) : Prop :=
  s.AnsweredWith t p (plainResponse m st) ∧ s.Remarked t p ∧ s.ChangesOnly t [.ports, .parking]

/-- The entry of one page becomes another, and every other entry stands. -/
def State.EntryBecomes (s t : State) (n : Nat) (e : PageEntry) : Prop :=
  t.entry n = e ∧ (∀ k, k ≠ n → t.entry k = s.entry k) ∧ t.pageMap.entries.length = s.pageMap.entries.length

/-- One word of the array takes a value, when there is one, and every other word reads as before. -/
def State.WordBecomes (s t : State) (a : Nat) (w : Option StoredWord) : Prop :=
  t.array.read a = w.getD (s.array.read a) ∧ ∀ b, b ≠ a → t.array.read b = s.array.read b

/-- An operation of a kind is in flight and its last phase has run (R114). -/
abbrev State.InFlight (s : State) (o : Operation) (k : OpKind) : Prop :=
  s.sequencer = some o ∧ o.kind = k ∧ o.lastPhase = true

/-- The reports of a completion that has read a word (R51, R52, R121, R123): by the class of the word, the page's
count and mark, and the requests handed to the notice log, in their order. -/
def State.ReportsMade (s t : State) (a : Nat) (f : Finder) (d : DecodeResult) : Prop :=
  let n := pageOf a
  let e := s.entry n
  let reaches := e.corrected + 1 = s.control.items.weakThreshold
  match d.cls with
  | .clean => t.pageMap.entries = s.pageMap.entries ∧ t.log.asked = s.log.asked
  | .single .check _ =>
    t.pageMap.entries = s.pageMap.entries ∧
      t.log.asked = s.log.asked ++
        (if s.control.items.logging then [.corrected a n d.syndrome .check f e.info] else [])
  | .single sub _ =>
    s.EntryBecomes t n { e with corrected := min 255 (e.corrected + 1), weak := e.weak || decide reaches } ∧
      t.log.asked = s.log.asked ++
        (if s.control.items.logging then [.corrected a n d.syndrome sub f e.info] else []) ++
        (if reaches ∧ e.weak = false then [.weakPage n e.info] else [])
  | .double =>
    t.pageMap.entries = s.pageMap.entries ∧
      t.log.asked = s.log.asked ++ [.uncorrectable a n d.syndrome true f e.info]
  | .multiple =>
    t.pageMap.entries = s.pageMap.entries ∧
      t.log.asked = s.log.asked ++ [.uncorrectable a n d.syndrome false f e.info]

/-- The reports of a completion: none when no word was read (R11, R118). -/
def State.ReportsOf (s t : State) (a : Nat) (f : Finder) : Option DecodeResult → Prop
  | none => t.pageMap.entries = s.pageMap.entries ∧ t.log.asked = s.log.asked
  | some d => s.ReportsMade t a f d

/-- The candidates that stand (R105). -/
def State.Stands (s : State) : Candidate → Prop
  | .port p =>
    (s.port p).state = .active ∧ s.table.parking.get p = none ∧
      ∃ m k, s.Routed p m k ∧ k.isMemory = true
  | .refreshController => 1 ≤ s.refresh.owed
  | .clearEngine => s.clear.queue ≠ []
  | .scrubEngine => s.scrub.pending = true

/-- A port has been granted, whatever the outcome: the record of its class, and of no other, moves to it (R108), and the two
counts follow R109 and R110. -/
structure State.GrantCounted (s t : State) (p : Port) : Prop where
  priorityRecord : s.control.items.priority.get p = true →
    t.arbiter.lastPriority = p ∧ t.arbiter.lastNormal = s.arbiter.lastNormal
  normalRecord : s.control.items.priority.get p = false →
    t.arbiter.lastNormal = p ∧ t.arbiter.lastPriority = s.arbiter.lastPriority
  streakRises : s.control.items.priority.get p = true →
    (∃ q, s.Stands (.port q) ∧ s.control.items.priority.get q = false) → t.arbiter.streak = s.arbiter.streak + 1
  streakAlone : s.control.items.priority.get p = true →
    (∀ q, s.Stands (.port q) → s.control.items.priority.get q = true) → t.arbiter.streak = 0
  streakNormal : s.control.items.priority.get p = false → t.arbiter.streak = 0
  shareRises : s.clear.queue ≠ [] → t.arbiter.clearShare = s.arbiter.clearShare + 1
  shareAlone : s.clear.queue = [] → t.arbiter.clearShare = 0

/-- How many ports the search of R108 passes before it comes to a port. -/
def searchDistance (last p : Port) : Nat := (p.num + 3 - last.num) % 4

/-- The port that the search of R108 finds among those that meet a condition: the first after the last one granted. -/
def FirstAfter (last p : Port) (c : Port → Prop) : Prop := c p ∧ ∀ q, c q → searchDistance last p ≤ searchDistance last q

/-- A request that is answered BAD-REQUEST (R25). -/
def Request.Bad (m : Request) : Prop :=
  m.kind = none ∨
    ∃ k, m.kind = some k ∧
      ((k.usesGuardAction = true ∧ m.guardAction = none) ∨
        ((k = .read ∨ k = .lockedRead) ∧ (m.guardAction = some .set ∨ m.guardAction = some .clear)) ∨
        (k = .mergeWrite ∧ m.byteMask = 0#4))

/-- How many positions of a stored word are 1. -/
def positionsSet (w : StoredWord) : Nat := ((List.range 40).filter fun n => w.getLsbD n).length

end Sys2Proof.Machine
end

