-- ==== Sys2Proof/Certificates/Slice0/Obligations.lean ====
section
/-! DEFINITION. The statements about the model, from the numbered rules of the spec. Where a statement rests on a
choice of the model, its docstring names the log entry. -/

open Sys2Proof Sys2Proof.Machine

/-! ### The check code -/

/-- R4, whole: each bit of the syndrome is the parity of the positions from 1 to 39 whose number has that bit set, the
overall check is the parity of all 40 positions; a word read back unchanged has syndrome 0 and good parity, one
changed position n gives syndrome n and bad parity, two give their exclusive-or, not 0, and good parity. -/
def Obligations.SyndromeAndParity : Prop :=
  (∀ w : StoredWord,
    (∀ k, k < 6 → ((syndromeOf w).getLsbD k = true ↔
      ((List.range 40).filter fun n => decide (1 ≤ n) && n.testBit k && w.getLsbD n).length % 2 = 1)) ∧
    (overallBad w = true ↔ positionsSet w % 2 = 1)) ∧
  ∀ g : Guarded,
    (syndromeOf (encode g) = 0#6 ∧ overallBad (encode g) = false) ∧
    (∀ n, n < 40 → (syndromeOf (invertPosition (encode g) n)).toNat = n ∧
      overallBad (invertPosition (encode g) n) = true) ∧
    ∀ n m, n < 40 → m < 40 → n ≠ m →
      (syndromeOf (invertPosition (invertPosition (encode g) n) m)).toNat = n ^^^ m ∧ n ^^^ m ≠ 0 ∧
      overallBad (invertPosition (invertPosition (encode g) n) m) = false

/-- R5, whole: the class and the bad position by the table; CLEAN and SINGLE are correctable, DOUBLE and MULTIPLE
are not; MULTIPLE means an odd number of changed positions, at least three, DOUBLE an even number, at least two. -/
def Obligations.DecodeClassFollowsTable : Prop :=
  (∀ w : StoredWord,
    (overallBad w = false → (syndromeOf w).toNat = 0 → (decode w).cls = .clean) ∧
    (overallBad w = true → (syndromeOf w).toNat ≤ 39 → ∃ sub, (decode w).cls = .single sub (syndromeOf w).toNat) ∧
    (overallBad w = true → 40 ≤ (syndromeOf w).toNat → (decode w).cls = .multiple) ∧
    (overallBad w = false → 1 ≤ (syndromeOf w).toNat → (decode w).cls = .double) ∧
    ((decode w).corrected.isSome = true ↔ (decode w).cls = .clean ∨ ∃ sub n, (decode w).cls = .single sub n)) ∧
  ∀ (g : Guarded) (changed : StoredWord),
    ((decode (encode g ^^^ changed)).cls = .multiple → positionsSet changed % 2 = 1 ∧ 3 ≤ positionsSet changed) ∧
    ((decode (encode g ^^^ changed)).cls = .double → positionsSet changed % 2 = 0 ∧ 2 ≤ positionsSet changed)

/-- An encoded word read back decodes CLEAN with its data and guard; with any one position changed it decodes SINGLE
at that position, with the subclass of R6, and the data and guard written; with any two it decodes DOUBLE. -/
def Obligations.CodeCorrectsOneDetectsTwo : Prop :=
  (∀ n, (subclassOf n = .guard ↔ n = 39) ∧ (subclassOf n = .check ↔ n ∈ [0, 1, 2, 4, 8, 16, 32])) ∧
  encode { data := 0#32, guard := false } = 0#40 ∧
  ∀ g : Guarded,
    decode (encode g) = { cls := .clean, syndrome := 0#6, corrected := some g } ∧
    (∀ n, n < 40 → decode (invertPosition (encode g) n) =
      { cls := .single (subclassOf n) n, syndrome := BitVec.ofNat 6 n, corrected := some g }) ∧
    ∀ n m, n < 40 → m < 40 → n ≠ m → decode (invertPosition (invertPosition (encode g) n) m) =
      { cls := .double, syndrome := BitVec.ofNat 6 n ^^^ BitVec.ofNat 6 m, corrected := none }

/-- A write-back stores the corrected word bit for bit, whatever word decodes SINGLE (R10), and that word then decodes
CLEAN with the same data and guard. -/
def Obligations.WriteBackRestores : Prop :=
  ∀ (w : StoredWord) (sub : Subclass) (n : Nat) (c : Guarded),
    (decode w).cls = .single sub n → (decode w).corrected = some c →
      encode c = invertPosition w n ∧ decode (encode c) = { cls := .clean, syndrome := 0#6, corrected := some c }

/-! ### Formats -/

/-- The fields of a request message (R178). -/
def Obligations.RequestLayout : Prop :=
  ∀ m : Request,
    (∀ k, m.kind = some k ↔
      (m.w0.toNat % 32, k) ∈ [(1, .read), (2, .write), (3, .mergeWrite), (4, .lockedRead), (5, .condWrite), (6, .unlock),
        (8, .claim), (9, .grant), (10, .revoke), (11, .offer), (12, .accept), (13, .withdraw), (14, .release),
        (15, .pageQuery), (16, .fetchNotice), (20, .ctlRead), (21, .ctlWrite), (22, .start)]) ∧
    (∀ a, m.guardAction = some a ↔ (m.w0.toNat / 2 ^ 5 % 4, a) ∈ [(0, .keep), (1, .set), (2, .clear)]) ∧
    m.byteMask.toNat = m.w0.toNat / 2 ^ 7 % 16 ∧
    m.rightWrite = m.w0.getLsbD 11 ∧ m.clearOption = m.w0.getLsbD 12 ∧ (m.guardMode = .on ↔ m.w0.getLsbD 13 = true) ∧
    m.target.num = m.w0.toNat / 2 ^ 14 % 4 ∧ m.tag.toNat = m.w0.toNat / 2 ^ 16 % 256 ∧
    m.controlIndex = m.w0.toNat / 2 ^ 24 % 64 ∧
    m.addr = m.w1.toNat ∧ m.page = m.w1.toNat ∧ m.data = m.w2

/-- The words on the response channel: a response, a link-up indication (R179) and the two images (R180), every field and
every code by its number. That the bits no field names are 0 is the model's choice (log entry 26). -/
def Obligations.ResponseLayout : Prop :=
  (∀ r : Response,
    r.message.w0.extractLsb' 0 8 = r.tag ∧
    (r.status, (r.message.w0.extractLsb' 8 5).toNat) ∈
      [(Status.ok, 0), (.range, 1), (.notRunning, 2), (.badRequest, 3), (.notReady, 4), (.frozen, 5), (.badValue, 6),
        (.noAccess, 7), (.guardOff, 8), (.notOwner, 9), (.guarded, 10), (.dataLost, 11), (.lapsed, 12), (.noRoom, 13),
        (.taken, 14), (.clearing, 15), (.pending, 16), (.noOffer, 17), (.badTarget, 18), (.noNotice, 19)] ∧
    r.message.w0.getLsbD 13 = r.corrected ∧ r.message.w0.getLsbD 14 = r.data.isSome ∧
    r.message.w0.getLsbD 15 = r.guard.isSome ∧ r.message.w0.getLsbD 16 = r.guard.getD false ∧
    r.message.w0.getLsbD 17 = r.image.isSome ∧ r.message.w0.extractLsb' 18 14 = 0#14 ∧
    r.message.w1 = r.data.getD 0#32 ∧
    (r.image = none → r.message.w2 = 0#32 ∧ r.message.w3 = 0#32) ∧
    ∀ i, r.image = some i → r.message.w2 = i.word2 ∧ r.message.w3 = i.word3) ∧
  (∀ p : Port, linkUpMessage p =
    { w0 := BitVec.ofNat 32 (2 ^ 18 + p.num * 2 ^ 20 + 8 * 2 ^ 24), w1 := 0#32, w2 := 0#32, w3 := 0#32 }) ∧
  (∀ i : PageImage, i.page < 1024 → i.corrected ≤ 255 →
    i.word2.toNat % 1024 = i.page ∧
    (i.state, i.word2.toNat / 2 ^ 10 % 4) ∈ [(PageState.free, 0), (.held, 1), (.offered, 2), (.clearing, 3)] ∧
    i.word2.getLsbD 12 = i.owner.isSome ∧ (∀ p, i.owner = some p → i.word2.toNat / 2 ^ 13 % 4 = p.num) ∧
    (i.owner = none → i.word2.toNat / 2 ^ 13 % 4 = 0) ∧
    (i.word2.getLsbD 15 = true ↔ i.guardMode = .on) ∧
    (∀ p, i.word2.getLsbD (16 + p.num) = i.readSet.get p ∧ i.word2.getLsbD (20 + p.num) = i.writeSet.get p) ∧
    i.word2.getLsbD 24 = i.offerTarget.isSome ∧ (∀ p, i.offerTarget = some p → i.word2.toNat / 2 ^ 25 % 4 = p.num) ∧
    (i.offerTarget = none → i.word2.toNat / 2 ^ 25 % 4 = 0) ∧
    i.word2.getLsbD 27 = i.weak ∧ i.word2.toNat / 2 ^ 28 = 0 ∧ i.word3.toNat = i.corrected) ∧
  ∀ i : NoticeImage, (∀ a, i.addr = some a → a < 2 ^ 22 ∧ i.other = none) → (∀ n, i.page = some n → n < 1024) →
    (∀ a, i.addr = some a → i.word2.toNat % 2 ^ 22 = a) ∧
    (∀ p, i.other = some p → i.word2.toNat % 2 ^ 22 = p.num) ∧
    (i.addr = none → i.other = none → i.word2.toNat % 2 ^ 22 = 0) ∧
    i.word2.toNat / 2 ^ 22 = i.page.getD 0 ∧
    i.word3.extractLsb' 0 16 = i.sequence ∧
    (i.kind, i.word3.toNat / 2 ^ 16 % 16) ∈
      [(NoticeKind.corrected, 1), (.uncorrectable, 2), (.weakPage, 3), (.refreshOverrun, 4), (.portOverrun, 5),
        (.offerMade, 6), (.offerLapsed, 7), (.pageAccepted, 8), (.ready, 9), (.started, 10)] ∧
    i.word3.extractLsb' 20 6 = i.syndrome.getD 0#6 ∧
    (i.cls, i.word3.toNat / 2 ^ 26 % 8) ∈
      [(none, 0), (some NoticeClass.singleData, 0), (some .singleGuard, 1), (some .singleCheck, 2), (some .double, 3),
        (some .multiple, 4)] ∧
    (i.foundBy, i.word3.toNat / 2 ^ 29) ∈
      [(none, 0), (some (Finder.port .p0), 0), (some (.port .p1), 1), (some (.port .p2), 2), (some (.port .p3), 3),
        (some .scrub, 4)]

/-! ### Ports -/

/-- The port's three checks in their order: kind and fields, device state, range (R25, R26, R27, R36). -/
def Obligations.PortChecksInOrder : Prop :=
  ∀ (s : State) (m : Request),
    (m.Bad → s.portCheck m = some .badRequest) ∧
    ∀ k, m.kind = some k → ¬ m.Bad →
      (s.control.device ≠ .run → (k.isMemory = true ∨ k = .unlock ∨ k.isPage = true) →
        s.portCheck m = some .notRunning) ∧
      (s.control.device = .run → (k.isMemory = true ∨ k = .unlock) →
        s.portCheck m = if s.size ≤ m.addr then some .range else none) ∧
      (s.control.device = .run → k.isPage = true →
        s.portCheck m = if s.pageCount ≤ m.page then some .range else none) ∧
      (k.isMemory = false → k ≠ .unlock → k.isPage = false → s.portCheck m = none)

/-- A port that is answered puts the response behind those it holds and takes its requests in order: each that fails
its checks is answered in turn, the first that passes becomes current in ROUTED, and what is behind it stays queued
(R24, R30). Its state, outstanding count, orphan mark and link-up indication stand. -/
def Obligations.AnswersInOrder : Prop :=
  ∀ (check : Request → Option Status) (r : PortRecord) (c : CurrentRequest) (resp : Response), r.current = some c →
    ∃ refused : List (Request × Status),
      (∀ x ∈ refused, check x.1 = some x.2) ∧
      ((r.answered resp).becomeCurrent check).responses =
        r.responses ++ resp :: refused.map (fun x => plainResponse x.1 x.2) ∧
      ((((r.answered resp).becomeCurrent check).current = none ∧ ((r.answered resp).becomeCurrent check).queue = [] ∧
          r.queue = refused.map Prod.fst) ∨
        ∃ m, check m = none ∧
          ((r.answered resp).becomeCurrent check).current = some { msg := m, phase := .routed } ∧
          r.queue = refused.map Prod.fst ++ m :: ((r.answered resp).becomeCurrent check).queue) ∧
      ((r.answered resp).becomeCurrent check).state = r.state ∧
      ((r.answered resp).becomeCurrent check).outstanding = r.outstanding ∧
      ((r.answered resp).becomeCurrent check).orphan = r.orphan ∧
      ((r.answered resp).becomeCurrent check).linkUp = r.linkUp ∧
      ((r.answered resp).becomeCurrent check).channel = r.channel

/-- A request that arrives at an ACTIVE port with fewer than 8 outstanding is accepted (R21): behind a current request
it joins the tail of the queue; at an idle port it is checked at once, and answered or routed (R24). -/
def Obligations.RequestAccepted : Prop :=
  ∀ (s : State) (p : Port) (m : Request), (s.port p).Sound → (s.port p).state = .active → (s.port p).outstanding < 8 →
    Completes (.requestArrives p m.w0 m.w1 m.w2) s fun t =>
      s.OthersStand t p ∧ s.ChangesOnly t [.ports, .parking] ∧
      (∀ c, (s.port p).current = some c →
        t.port p = { s.port p with queue := (s.port p).queue ++ [m], outstanding := (s.port p).outstanding + 1 } ∧
        t.table.parking = s.table.parking) ∧
      ((s.port p).current = none →
        s.Remarked t p ∧
        (∀ st, s.portCheck m = some st → t.port p =
          { s.port p with responses := (s.port p).responses ++ [plainResponse m st],
                          outstanding := (s.port p).outstanding + 1 }) ∧
        (s.portCheck m = none → t.port p =
          { s.port p with current := some { msg := m, phase := .routed },
                          outstanding := (s.port p).outstanding + 1 }))

/-- A message at a port in RESET or ABSENT changes nothing (R16); one at an ACTIVE port with 8 outstanding is an overrun:
discarded, with PORT-OVERRUN asked for (R22). -/
def Obligations.ArrivalIgnoredOrOverrun : Prop :=
  ∀ (s : State) (p : Port) (w0 w1 w2 : Word),
    ((s.port p).state ≠ .active → exec (.requestArrives p w0 w1 w2) s = .next s) ∧
    ((s.port p).state = .active → (s.port p).outstanding = 8 →
      Completes (.requestArrives p w0 w1 w2) s fun t =>
        t.log.asked = s.log.asked ++ [.portOverrun p] ∧ s.ChangesOnly t [.asked])

/-- R23, whole: an arrival and a delivery of one port, each whole, in either order. With 8 outstanding the arrival is
accepted after the delivery and an overrun before it; the counts agree exactly when the request was accepted, and an
overrun leaves the count one lower. -/
def Obligations.ArrivalAndDelivery : Prop :=
  ∀ (s : State) (p : Port) (w0 w1 w2 : Word), (s.port p).Sound → (s.port p).state = .active →
    (s.port p).linkUp = false → (s.port p).responses ≠ [] →
    ∃ delivered both arrived both',
      exec (.responseDelivered p) s = .next delivered ∧ exec (.requestArrives p w0 w1 w2) delivered = .next both ∧
      exec (.requestArrives p w0 w1 w2) s = .next arrived ∧ exec (.responseDelivered p) arrived = .next both' ∧
      ((s.port p).outstanding = 8 →
        (delivered.port p).outstanding = 7 ∧ (both.port p).outstanding = 8 ∧ both.log.asked = s.log.asked ∧
        arrived.log.asked = s.log.asked ++ [.portOverrun p] ∧ (arrived.port p).outstanding = 8 ∧
        (both'.port p).outstanding = 7) ∧
      ((s.port p).outstanding < 8 →
        (both.port p).outstanding = (s.port p).outstanding ∧ (both'.port p).outstanding = (s.port p).outstanding ∧
        arrived.log.asked = s.log.asked)

/-- Deliveries: the link-up indication leaves first and changes no count (R20); the head response leaves, the count
falls by 1, and its four words stand on the channel (R31). With nothing to deliver, no delivery takes place (the
model's choice, log entry 9). -/
def Obligations.MessagesDelivered : Prop :=
  ∀ (s : State) (p : Port), (s.port p).state = .active →
    ((s.port p).linkUp = true →
      (Completes (.linkUpDelivered p) s fun t =>
        t.port p = { s.port p with linkUp := false, channel := some (linkUpMessage p) } ∧ s.OthersStand t p ∧
        s.ChangesOnly t [.ports]) ∧
      exec (.responseDelivered p) s = .next s) ∧
    ((s.port p).linkUp = false → exec (.linkUpDelivered p) s = .next s) ∧
    (∀ r rest, (s.port p).linkUp = false → (s.port p).responses = r :: rest →
      Completes (.responseDelivered p) s fun t =>
        t.port p = { s.port p with responses := rest, outstanding := (s.port p).outstanding - 1,
                                   channel := some r.message } ∧
        s.OthersStand t p ∧ s.ChangesOnly t [.ports]) ∧
    ((s.port p).responses = [] → exec (.responseDelivered p) s = .next s)

/-! ### Resets -/

/-- The fall of NRST puts every block at its values (R17, R71, R103, R104, R128, R139, R152, R164, R166, R172). The
array stands, but for a word whose write is abandoned in WRITING (R15, R128), of which nothing is said. The PRST
levels and the waiting commands stand (the queue is the model's own, log entry 21), and requests the notice log has
not taken are gone (log entry 16). That the clear engine holds nothing until NRST rises, and the latched straps with
their values until then, are the model's choices (log entries 1 and 2). -/
def Obligations.ColdResetValues : Prop :=
  ∀ s : State,
    Completes .nrstFalls s fun t =>
      t.pins.nrst = false ∧ t.pins.prst = s.pins.prst ∧ t.pending = s.pending ∧
      (∀ p, t.port p = { state := .reset, queue := [], current := none, responses := [], outstanding := 0,
                         orphan := false, linkUp := false, channel := none }) ∧
      t.pageMap.entries = [] ∧ t.pageMap.offers = [] ∧ t.table.entries = [] ∧ (∀ p, t.table.parking.get p = none) ∧
      t.arbiter = { lastPriority := .p3, lastNormal := .p3, streak := 0, clearShare := 0 } ∧
      t.sequencer = none ∧ t.refresh = { timer := .stopped, owed := 0, row := 0#13 } ∧
      t.clear = { queue := [], progress := 0 } ∧
      t.scrub = { position := 0, timer := .stopped, pending := false, passes := 0#16 } ∧
      t.control.straps = { msize := 0#2, pen := ⟨false, false, false, false⟩ } ∧
      t.log.records = [] ∧ t.log.sequence = 0#16 ∧ t.log.lost = 0 ∧ (∀ p, t.log.lines.get p = false) ∧
      t.log.asked = [] ∧ t.control.device = .init ∧
      t.control.items = { refreshInterval := 7, scrubInterval := 200, reservationLifetime := 500,
                          offerLifetime := 2000, writeBack := true, logging := true, weakThreshold := 16,
                          priority := ⟨false, false, false, false⟩ } ∧
      ((∀ o, s.sequencer = some o → o.phase ≠ .writing) → t.array = s.array) ∧
      ∀ o a, s.sequencer = some o → o.target = .word a → s.ArraySound →
        ∀ b, b ≠ a → t.array.read b = s.array.read b

/-- The rise of NRST latches the straps, gives each port its state, rebuilds the page map as CLEARING, fills the clear
queue and starts the refresh timer at 7; the device is in INIT (R16, R17, R20, R56, R130, R145, R166, R170). -/
def Obligations.RiseBuildsMap : Prop :=
  ∀ (s : State) (msize : BitVec 2) (pen : PortSet),
    (s.pins.nrst = true → exec (.nrstRises msize pen) s = .next s) ∧
    (s.pins.nrst = false → s.ColdResetSound →
      Completes (.nrstRises msize pen) s fun t =>
        t.pins = { nrst := true, prst := s.pins.prst } ∧ t.control.straps = { msize := msize, pen := pen } ∧
        t.control.device = .init ∧ t.control.items = s.control.items ∧
        t.size = (if msize = 3#2 then 4194304 else if msize = 2#2 then 2097152 else 1048576) ∧
        t.pageCount = (if msize = 3#2 then 1024 else if msize = 2#2 then 512 else 256) ∧
        t.pageMap.entries.length = t.pageCount ∧
        (∀ n, n < t.pageCount → t.entry n =
          { state := .clearing, owner := none, readSet := ⟨false, false, false, false⟩,
            writeSet := ⟨false, false, false, false⟩, guardMode := .off, corrected := 0, weak := false }) ∧
        t.clear = { queue := List.range t.pageCount, progress := 0 } ∧
        t.refresh = { timer := .running 7, owed := 0, row := 0#13 } ∧
        (∀ p, (pen.get p = false → t.port p = { s.port p with state := .absent }) ∧
          (pen.get p = true → s.pins.prst.get p = false → t.port p = s.port p) ∧
          (pen.get p = true → s.pins.prst.get p = true →
            t.port p = { s.port p with state := .active, linkUp := true })) ∧
        s.ChangesOnly t [.pins, .ports, .entries, .refresh, .clear, .control])

/-- A port reset (R32, R33, R78, R102, R163): the port is emptied, with the orphan mark on a granted operation; offers that
name it are withdrawn in list order with OFFER-LAPSED for the other party; its reservations go and parking is
evaluated afresh; it leaves every recipient set and its line falls. Owners, sets and everything else stand (R58). -/
def Obligations.PortReset : Prop :=
  ∀ (s : State) (p : Port), s.pins.nrst = true → (s.port p).state = .active → s.OffersSound →
    Completes (.prstFalls p) s fun t =>
      t.pins = { nrst := true, prst := s.pins.prst.set p false } ∧
      t.port p = { state := .reset, queue := [], current := none, responses := [], outstanding := 0,
                   orphan := (s.port p).orphan || (s.port p).isGranted, linkUp := false, channel := none } ∧
      s.OthersStand t p ∧
      t.pageMap.offers = s.pageMap.offers.filter (fun o => decide (o.fromPort ≠ p) && decide (o.toPort ≠ p)) ∧
      (∀ o ∈ s.pageMap.offers, (o.fromPort = p ∨ o.toPort = p) →
        t.entry o.page = { s.entry o.page with state := .held }) ∧
      (∀ n, (∀ o ∈ s.pageMap.offers, (o.fromPort = p ∨ o.toPort = p) → o.page ≠ n) → t.entry n = s.entry n) ∧
      t.pageMap.entries.length = s.pageMap.entries.length ∧
      t.log.asked = s.log.asked ++
        (s.pageMap.offers.filter fun o => decide (o.fromPort = p) || decide (o.toPort = p)).map
          (fun o => .offerCutByReset o.page p (if o.fromPort = p then o.toPort else o.fromPort)) ∧
      t.table.entries = s.table.entries.filter (fun e => decide (e.port ≠ p)) ∧ t.ParkingSound ∧
      t.log.records =
        (s.log.records.map fun r => { r with recipients := r.recipients.set p false }).filter
          (fun r => !PortSet.isEmpty r.recipients) ∧
      t.log.lines = s.log.lines.set p false ∧
      s.ChangesOnly t [.pins, .ports, .entries, .offers, .reservations, .parking, .records, .lines, .asked]

/-- PRST elsewhere: its rise at a port in RESET with NRST high makes the port ACTIVE with a link-up indication, an orphan
mark staying (R18, R20, R35); any other change of PRST changes only the level of the pin (R18). With requests waiting at
the notice log, the log takes them all first, the oldest first, each as NOTICE_RECORD_CREATE takes it (log entry 24);
a port that returns to ACTIVE is in no record (R35, R159). -/
def Obligations.PrstChanges : Prop :=
  ∀ (s : State) (p : Port),
    (s.pins.nrst = true → (s.port p).state = .reset →
      (Completes (.prstRises p) s fun t =>
        t.pins = { nrst := true, prst := s.pins.prst.set p true } ∧
        t.port p = { state := .active, queue := [], current := none, responses := [], outstanding := 0,
                     orphan := (s.port p).orphan, linkUp := true, channel := none } ∧
        s.OthersStand t p ∧ t.log.asked = [] ∧
        (s.log.asked = [] → s.ChangesOnly t [.pins, .ports]) ∧
        (s.LogSound → ∀ x ∈ t.log.records, x.recipients.get p = false) ∧
        s.ChangesOnly t [.pins, .ports, .records, .sequence, .lost, .lines, .asked]) ∧
      ∀ r rest, s.log.asked = r :: rest →
        Completes (.noticeRecordCreate r.asker) s fun u =>
          u.log.asked = rest ∧ exec (.prstRises p) s = exec (.prstRises p) u) ∧
    ((s.pins.nrst = false ∨ (s.port p).state ≠ .reset) →
      Completes (.prstRises p) s fun t =>
        t.pins = { nrst := s.pins.nrst, prst := s.pins.prst.set p true } ∧ s.ChangesOnly t [.pins]) ∧
    ((s.pins.nrst = false ∨ (s.port p).state ≠ .active) →
      Completes (.prstFalls p) s fun t =>
        t.pins = { nrst := s.pins.nrst, prst := s.pins.prst.set p false } ∧ s.ChangesOnly t [.pins])

/-! ### Grants -/

/-- The rights table and the access check's use of them: R44, whole. A write right comes with a read right; OFFERED gives
what HELD gave, and the offer list gives nothing; the owner alone may use SET and CLEAR, is never stopped by the guard
check, and alone passes the owner check of the ownership requests. -/
def Obligations.RightsFollowEntry : Prop :=
  ∀ (e : PageEntry) (p : Port),
    ((e.state = .held ∨ e.state = .offered) →
      (e.owner = some p → e.mayRead p = true ∧ e.mayWrite p = true) ∧
      (e.writeSet.get p = true → e.mayRead p = true ∧ e.mayWrite p = true) ∧
      (e.readSet.get p = true → e.writeSet.get p = false → e.owner ≠ some p →
        e.mayRead p = true ∧ e.mayWrite p = false) ∧
      (e.owner ≠ some p → e.readSet.get p = false → e.writeSet.get p = false →
        e.mayRead p = false ∧ e.mayWrite p = false)) ∧
    ((e.state = .free ∨ e.state = .clearing) → e.mayRead p = false ∧ e.mayWrite p = false) ∧
    (e.mayWrite p = true → e.mayRead p = true) ∧
    (e.state = .held → PageEntry.mayRead { e with state := .offered } p = e.mayRead p ∧
      PageEntry.mayWrite { e with state := .offered } p = e.mayWrite p) ∧
    (∀ k a, a ≠ .keep → e.guardMode = .on →
      (accessCheck e p k a = none ↔ (e.state = .held ∨ e.state = .offered) ∧ e.owner = some p)) ∧
    (∀ (t : PortTerms) (read : Guarded), t.isOwner = true → guardRefuses t read = false) ∧
    (judgeOwner e p = none → e.owner = some p) ∧ (judgeWithdraw e p = none → e.owner = some p)

/-- The access check at grant makes its three steps in order (R46); a MERGE-WRITE is judged as carrying KEEP (R29). -/
def Obligations.AccessCheckSteps : Prop :=
  (∀ (e : PageEntry) (p : Port) (k : RequestKind) (a : GuardAction),
    accessCheck e p k a =
      if (k = .read ∧ e.mayRead p = false) ∨ (k ≠ .read ∧ e.mayWrite p = false) then some .noAccess
      else if a ≠ .keep ∧ e.guardMode = .off then some .guardOff
      else if a ≠ .keep ∧ e.owner ≠ some p then some .notOwner
      else none) ∧
  (∀ m : Request, m.judgedAction .mergeWrite = .keep) ∧
  ∀ (m : Request) (k : RequestKind) (a : GuardAction), k.usesGuardAction = true → m.guardAction = some a →
    m.judgedAction k = a

/-- R115, whole: the operation of each request kind, guard mode, requester and guard action that passes the checks; no
other combination passes; a COND-WRITE gets what a WRITE gets. -/
def Obligations.OperationKindAtGrant : Prop :=
  (∀ (mode : GuardMode) (a : GuardAction),
    operationKind .read mode a = .read ∧ operationKind .lockedRead mode a = .read ∧
    operationKind .write .off .keep = .store ∧
    (a ≠ .keep → operationKind .write .on a = .store) ∧ operationKind .write .on .keep = .checkedStore ∧
    operationKind .condWrite mode a = operationKind .write mode a ∧ operationKind .mergeWrite mode a = .merge) ∧
  (∀ (e : PageEntry) (p : Port) (k : RequestKind) (a : GuardAction), accessCheck e p k a = none → a ≠ .keep →
    e.guardMode = .on ∧ e.ownedBy p = true) ∧
  (∀ (s : State) (m : Request) (a : GuardAction), (m.kind = some .read ∨ m.kind = some .lockedRead) →
    m.guardAction = some a → a ≠ .keep → s.portCheck m = some .badRequest) ∧
  ∀ t : PortTerms,
    (operationFor t).kind = operationKind t.kind t.guardMode (t.msg.judgedAction t.kind) ∧
    (operationFor t).served = .port t ∧ (operationFor t).target = .word t.msg.addr ∧ (operationFor t).decoded = none ∧
    ((operationFor t).kind = .store → (operationFor t).phase = .writing ∧
      ∃ g, (operationFor t).settled = some { data := t.msg.data, guard := g }) ∧
    ((operationFor t).kind ≠ .store → (operationFor t).phase = .reading ∧ (operationFor t).settled = none)

/-- A granted READ, WRITE or MERGE-WRITE that the page map passes begins its operation, with the two facts of the entry
fixed (R28, R47, R48), and the round-robin record of its class moves to the port (R108, R111). -/
def Obligations.GrantsBegin : Prop :=
  ∀ (i : Instr) (k : RequestKind) (p : Port), (i, k) ∈ [(.read p, .read), (.write p, .write), (.mergeWrite p, .mergeWrite)] →
    ∀ (s : State) (m : Request), s.arbiterChoice = some (.port p) → s.Routed p m k →
      accessCheck (s.entry (pageOf m.addr)) p k (m.judgedAction k) = none →
      Completes i s fun t =>
        t.sequencer = some (operationFor
          { port := p, msg := m, kind := k, guardMode := (s.entry (pageOf m.addr)).guardMode,
            isOwner := (s.entry (pageOf m.addr)).ownedBy p }) ∧
        t.port p = { s.port p with current := some { msg := m, phase := .granted } } ∧ s.OthersStand t p ∧
        s.GrantCounted t p ∧ s.ChangesOnly t [.ports, .arbiter, .sequencer]

/-- A granted memory request of any kind that the page map refuses is answered at once with its status; no operation
begins, no reservation is touched, and the grant counts: the round-robin record of its class moves (R48, R108, R111). -/
def Obligations.GrantsRefused : Prop :=
  ∀ (i : Instr) (k : RequestKind) (p : Port),
    (i, k) ∈ [(.read p, .read), (.write p, .write), (.mergeWrite p, .mergeWrite), (.lockedRead p, .lockedRead),
      (.condWrite p, .condWrite)] →
    ∀ (s : State) (m : Request) (st : Status), s.arbiterChoice = some (.port p) → s.Routed p m k →
      accessCheck (s.entry (pageOf m.addr)) p k (m.judgedAction k) = some st →
      Completes i s fun t =>
        s.AnsweredWith t p (plainResponse m st) ∧ s.Remarked t p ∧ s.GrantCounted t p ∧
        s.ChangesOnly t [.ports, .parking, .arbiter]

/-- A granted LOCKED-READ that the page map passes begins a READ operation, unless its port holds two entries, neither
for the word: then it is answered NO-ROOM (R90, R111). Either way the round-robin record of its class moves (R108). -/
def Obligations.LockedReadAtGrant : Prop :=
  ∀ (s : State) (p : Port) (m : Request), s.arbiterChoice = some (.port p) → s.Routed p m .lockedRead →
    accessCheck (s.entry (pageOf m.addr)) p .lockedRead (m.judgedAction .lockedRead) = none →
    (((reservationsOf s.table.entries p).length < 2 ∨ heldBy s.table.entries p m.addr = true) →
      Completes (.lockedRead p) s fun t =>
        t.sequencer = some (operationFor
          { port := p, msg := m, kind := .lockedRead, guardMode := (s.entry (pageOf m.addr)).guardMode,
            isOwner := (s.entry (pageOf m.addr)).ownedBy p }) ∧
        t.port p = { s.port p with current := some { msg := m, phase := .granted } } ∧ s.OthersStand t p ∧
        s.GrantCounted t p ∧ s.ChangesOnly t [.ports, .arbiter, .sequencer]) ∧
    (2 ≤ (reservationsOf s.table.entries p).length → heldBy s.table.entries p m.addr = false →
      Completes (.lockedRead p) s fun t =>
        s.AnsweredWith t p (plainResponse m .noRoom) ∧ s.Remarked t p ∧ s.GrantCounted t p ∧
        s.ChangesOnly t [.ports, .parking, .arbiter])

/-- A granted COND-WRITE that the page map passes spends its entry and begins, parking evaluated afresh; without an entry
of its port on the word it is answered LAPSED (R92, R111). Either way the round-robin record of its class moves (R108). -/
def Obligations.CondWriteAtGrant : Prop :=
  ∀ (s : State) (p : Port) (m : Request), s.arbiterChoice = some (.port p) → s.Routed p m .condWrite →
    accessCheck (s.entry (pageOf m.addr)) p .condWrite (m.judgedAction .condWrite) = none →
    (heldBy s.table.entries p m.addr = true →
      Completes (.condWrite p) s fun t =>
        t.sequencer = some (operationFor
          { port := p, msg := m, kind := .condWrite, guardMode := (s.entry (pageOf m.addr)).guardMode,
            isOwner := (s.entry (pageOf m.addr)).ownedBy p }) ∧
        t.port p = { s.port p with current := some { msg := m, phase := .granted } } ∧ s.OthersStand t p ∧
        t.table.entries = s.table.entries.filter (fun e => !(decide (e.port = p) && decide (e.addr = m.addr))) ∧
        t.ParkingSound ∧ s.GrantCounted t p ∧
        s.ChangesOnly t [.ports, .arbiter, .sequencer, .reservations, .parking]) ∧
    (heldBy s.table.entries p m.addr = false →
      Completes (.condWrite p) s fun t =>
        s.AnsweredWith t p (plainResponse m .lapsed) ∧ s.Remarked t p ∧ s.GrantCounted t p ∧
        s.ChangesOnly t [.ports, .parking, .arbiter])

/-- The grant order (R105, R106, R107, R108): no choice while an operation is in flight; a choice exactly when a candidate
stands, and it is one; the seven steps in order, each class searched from the port after the last one granted.
A grant of anyone but the arbiter's choice does not take place (the model's choice, log entry 22). -/
def Obligations.GrantOrder : Prop :=
  ∀ s : State,
    (s.sequencer ≠ none → s.arbiterChoice = none) ∧
    (∀ p, s.arbiterChoice ≠ some (.port p) →
      exec (.read p) s = .next s ∧ exec (.write p) s = .next s ∧ exec (.mergeWrite p) s = .next s ∧
      exec (.lockedRead p) s = .next s ∧ exec (.condWrite p) s = .next s) ∧
    (s.arbiterChoice ≠ some .refreshController → exec .refreshGrant s = .next s) ∧
    (s.arbiterChoice ≠ some .clearEngine → exec .clearGrant s = .next s) ∧
    (s.arbiterChoice ≠ some .scrubEngine → exec .scrubGrant s = .next s) ∧
    (s.sequencer = none →
      (s.arbiterChoice = none ↔ ∀ c, ¬ s.Stands c) ∧ (∀ c, s.arbiterChoice = some c → s.Stands c) ∧
      (6 ≤ s.refresh.owed → s.arbiterChoice = some .refreshController) ∧
      (s.refresh.owed < 6 →
        (s.Stands .clearEngine → 16 ≤ s.arbiter.clearShare → s.arbiterChoice = some .clearEngine) ∧
        ((s.clear.queue = [] ∨ s.arbiter.clearShare < 16) →
          (∀ p, (s.arbiter.streak < 8 ∨ ∀ q, s.Stands (.port q) → s.isPriority q = true) →
            FirstAfter s.arbiter.lastPriority p (fun q => s.Stands (.port q) ∧ s.isPriority q = true) →
            s.arbiterChoice = some (.port p)) ∧
          (∀ p, (8 ≤ s.arbiter.streak ∨ ∀ q, s.Stands (.port q) → s.isPriority q = false) →
            FirstAfter s.arbiter.lastNormal p (fun q => s.Stands (.port q) ∧ s.isPriority q = false) →
            s.arbiterChoice = some (.port p)) ∧
          ((∀ q, ¬ s.Stands (.port q)) →
            (s.clear.queue ≠ [] → s.arbiterChoice = some .clearEngine) ∧
            (s.clear.queue = [] → 1 ≤ s.refresh.owed → s.arbiterChoice = some .refreshController) ∧
            (s.clear.queue = [] → s.refresh.owed = 0 → s.scrub.pending = true →
              s.arbiterChoice = some .scrubEngine)))))

/-- R109, whole: the priority streak count after each port grant, whatever its outcome; grants of the three engines leave
it; at 8 a waiting normal-class port is granted, and the count returns to 0; it stays within 0 to 8. -/
def Obligations.PriorityStreak : Prop :=
  ∀ s : State,
    (∀ (i : Instr) (k : RequestKind) (p : Port) (m : Request) (t : State),
      (i, k) ∈ [(.read p, .read), (.write p, .write), (.mergeWrite p, .mergeWrite), (.lockedRead p, .lockedRead),
        (.condWrite p, .condWrite)] →
      s.arbiterChoice = some (.port p) → s.Routed p m k → exec i s = .next t →
        (s.isPriority p = true → (∃ q, s.Stands (.port q) ∧ s.isPriority q = false) →
          t.arbiter.streak = s.arbiter.streak + 1) ∧
        (s.isPriority p = true → (∀ q, s.Stands (.port q) → s.isPriority q = true) → t.arbiter.streak = 0) ∧
        (s.isPriority p = false → t.arbiter.streak = 0) ∧
        (s.arbiter.streak = 8 → (∃ q, s.Stands (.port q) ∧ s.isPriority q = false) →
          s.isPriority p = false ∧ t.arbiter.streak = 0) ∧
        (s.arbiter.streak = 8 → t.arbiter.streak = 0) ∧
        (s.arbiter.streak ≤ 8 → t.arbiter.streak ≤ 8)) ∧
    ∀ (i : Instr) (t : State), i ∈ [.refreshGrant, .clearGrant, .scrubGrant] → exec i s = .next t →
      t.arbiter.streak = s.arbiter.streak

/-- The clear-share count after each port grant, whatever its outcome, and after the engines' grants; at 16 with the
clear engine a candidate and refresh not urgent the clear engine is granted; it stays within 0 to 16 (R110). -/
def Obligations.ClearShare : Prop :=
  ∀ s : State,
    (∀ (i : Instr) (k : RequestKind) (p : Port) (m : Request) (t : State),
      (i, k) ∈ [(.read p, .read), (.write p, .write), (.mergeWrite p, .mergeWrite), (.lockedRead p, .lockedRead),
        (.condWrite p, .condWrite)] →
      s.arbiterChoice = some (.port p) → s.Routed p m k → exec i s = .next t →
        (s.clear.queue ≠ [] → t.arbiter.clearShare = s.arbiter.clearShare + 1) ∧
        (s.clear.queue = [] → t.arbiter.clearShare = 0) ∧
        (s.arbiter.clearShare ≤ 16 → t.arbiter.clearShare ≤ 16)) ∧
    (∀ (i : Instr) (t : State), i ∈ [.refreshGrant, .scrubGrant] → exec i s = .next t →
      t.arbiter.clearShare = s.arbiter.clearShare) ∧
    (s.sequencer = none → s.refresh.owed < 6 → s.clear.queue ≠ [] → 16 ≤ s.arbiter.clearShare →
      s.arbiterChoice = some .clearEngine) ∧
    ∀ t, s.arbiterChoice = some .clearEngine → exec .clearGrant s = .next t → t.arbiter.clearShare = 0

/-- The grants of the three engines begin a REFRESH of the row counter's row, a CLEAR of the next word of the head page,
a SCRUB of the word at the scrub position; the engines leave their state as it stands (R133, R142, R148). -/
def Obligations.EngineGrants : Prop :=
  ∀ s : State,
    (s.arbiterChoice = some .refreshController →
      Completes .refreshGrant s fun t =>
        t.sequencer = some { kind := .refresh, served := .refreshController, target := .row s.refresh.row,
                             phase := .refreshing, decoded := none, settled := none } ∧
        s.ChangesOnly t [.sequencer]) ∧
    (∀ n rest, s.arbiterChoice = some .clearEngine → s.clear.queue = n :: rest →
      Completes .clearGrant s fun t =>
        t.sequencer = some { kind := .clear, served := .clearEngine, target := .word (n * 4096 + s.clear.progress),
                             phase := .writing, decoded := none, settled := some { data := 0#32, guard := false } } ∧
        t.arbiter = { s.arbiter with clearShare := 0 } ∧ s.ChangesOnly t [.sequencer, .arbiter]) ∧
    (s.arbiterChoice = some .scrubEngine →
      Completes .scrubGrant s fun t =>
        t.sequencer = some { kind := .scrub, served := .scrubEngine, target := .word s.scrub.position,
                             phase := .reading, decoded := none, settled := none } ∧
        s.ChangesOnly t [.sequencer])

/-! ### The memory sequencer -/

/-- The end of READING: the word, with the positions that have changed in the DRAM since (log entry 8), is decoded once
and stands in the array; what is to be written is settled, and the operation enters WRITING when it writes (R114). -/
def Obligations.ReadingEnds : Prop :=
  ∀ (s : State) (o : Operation) (a : Nat) (flips : StoredWord), s.sequencer = some o → o.phase = .reading →
    o.decoded = none → o.target = .word a → s.ArraySound →
    Completes (.readingEnds flips) s fun t =>
      (∃ d w, d = decode (s.array.read a ^^^ flips) ∧ w = settle s.control.items.writeBack o d ∧
        t.sequencer = some { o with decoded := some d, settled := w,
                                    phase := if w.isSome then .writing else .reading }) ∧
      s.WordBecomes t a (some (s.array.read a ^^^ flips)) ∧ s.ChangesOnly t [.sequencer, .array]

/-- What each operation writes after its read phase: nothing on an uncorrectable word (R8, R121); READ and SCRUB the
corrected word of a SINGLE, READ only with write-back on (R10, R117, R122); CHECKED-STORE the request's data (R119);
MERGE the enabled bytes of the request and the others of the corrected word (R120). -/
def Obligations.SettledByKind : Prop :=
  ∀ (writeBack : Bool) (o : Operation) (d : DecodeResult),
    (d.isSingle = true ↔ ∃ sub n, d.cls = .single sub n) ∧
    (d.corrected = none → settle writeBack o d = none) ∧
    ∀ c, d.corrected = some c →
      (o.kind = .read → settle writeBack o d = if d.isSingle = true ∧ writeBack = true then some c else none) ∧
      (o.kind = .scrub → settle writeBack o d = if d.isSingle = true then some c else none) ∧
      ∀ t g, o.served = .port t → settle writeBack o d = some g →
        (o.kind = .checkedStore → g.data = t.msg.data) ∧
        (o.kind = .merge → ∀ k, k < 4 → g.data.extractLsb' (8 * k) 8 =
          (if t.msg.byteMask.getLsbD k then t.msg.data else c.data).extractLsb' (8 * k) 8)

/-- R116, whole: the guard check refuses exactly when the mode was ON, the corrected guard is 1 and the requester is not
owner; a refused operation writes nothing, completes at the end of READING and is answered GUARDED with no data and
the corrected flag of its read; else the guard stored is that of the table. STORE has no read phase, and READ is not
checked and never answered GUARDED; a write-back stores the corrected guard, whatever the requester's standing. -/
def Obligations.GuardCheck : Prop :=
  (∀ d : DecodeResult, d.isSingle = true ↔ ∃ sub n, d.cls = .single sub n) ∧
  (∀ (writeBack : Bool) (o : Operation) (t : PortTerms) (d : DecodeResult) (c : Guarded), o.served = .port t →
    (o.kind = .checkedStore ∨ o.kind = .merge) → d.corrected = some c →
    ((t.guardMode = .on ∧ c.guard = true ∧ t.isOwner = false) →
      settle writeBack o d = none ∧ (o.afterRead d none).phase = .reading ∧ (o.afterRead d none).lastPhase = true ∧
      responseOf (o.afterRead d none) t =
        { tag := t.msg.tag, status := .guarded, corrected := d.isSingle, data := none, guard := none, image := none }) ∧
    (¬ (t.guardMode = .on ∧ c.guard = true ∧ t.isOwner = false) →
      ∃ g, settle writeBack o d = some g ∧
        (t.guardMode = .on → t.msg.judgedAction t.kind = .keep → g.guard = c.guard) ∧
        (t.guardMode = .off → g.guard = false))) ∧
  (∀ (t : PortTerms), (operationFor t).kind = .store →
    (operationFor t).wordBeingRead = none ∧
    ∃ g, (operationFor t).settled = some g ∧
      (t.guardMode = .on → t.msg.judgedAction t.kind = .set → g.guard = true) ∧
      (t.guardMode = .on → t.msg.judgedAction t.kind = .clear → g.guard = false) ∧
      (t.guardMode = .off → g.guard = false)) ∧
  (∀ (writeBack : Bool) (o : Operation) (d : DecodeResult), (o.kind = .read ∨ o.kind = .scrub) →
    settle writeBack o d = if d.isSingle = true ∧ (o.kind = .scrub ∨ writeBack = true) then d.corrected else none) ∧
  ∀ (o : Operation) (t : PortTerms), o.kind = .read → (responseOf o t).status ≠ .guarded

/-- The status and payload of each completed port operation (R37, R118, R119, R120, R125). -/
def Obligations.ResponseTable : Prop :=
  ∀ (o : Operation) (t : PortTerms),
    (o.decoded = none → responseOf o t =
      { tag := t.msg.tag, status := .ok, corrected := false, data := none, guard := none, image := none }) ∧
    ∀ d, o.decoded = some d →
      (d.isSingle = true ↔ ∃ sub n, d.cls = .single sub n) ∧
      (d.corrected = none → responseOf o t =
        { tag := t.msg.tag, status := .dataLost, corrected := false, data := none, guard := none, image := none }) ∧
      ∀ c, d.corrected = some c →
        (o.kind = .read → responseOf o t =
          { tag := t.msg.tag, status := .ok, corrected := d.isSingle, data := some c.data,
            guard := if t.guardMode = .on then some c.guard else none, image := none }) ∧
        (o.kind ≠ .read → responseOf o t =
          { tag := t.msg.tag, status := if o.settled = none then .guarded else .ok, corrected := d.isSingle,
            data := none, guard := none, image := none })

/-- The completion of READ, STORE, CHECKED-STORE and MERGE (R3, R33, R124, R127): what is settled is stored encoded, the
reports are made, the port is answered, or under the orphan mark nothing is and the mark is removed, and the
sequencer falls idle. For a LOCKED-READ see the next statement. -/
def Obligations.PortOperationCompletes : Prop :=
  ∀ (i : Instr) (k : OpKind), (i, k) ∈ [(.readOpCompletes, .read), (.storeCompletes, .store),
      (.checkedStoreCompletes, .checkedStore), (.mergeCompletes, .merge)] →
    ∀ (s : State) (o : Operation) (t : PortTerms), s.InFlight o k → o.served = .port t → o.target = .word t.msg.addr →
      t.kind ≠ .lockedRead → pageOf t.msg.addr < s.pageMap.entries.length → s.ArraySound →
      Completes i s fun u =>
        u.sequencer = none ∧ s.WordBecomes u t.msg.addr (o.settled.map encode) ∧
        s.ReportsOf u t.msg.addr (.port t.port) o.decoded ∧
        ((s.port t.port).orphan = false → s.AnsweredWith u t.port (responseOf o t) ∧ s.Remarked u t.port) ∧
        ((s.port t.port).orphan = true →
          u.port t.port = { s.port t.port with orphan := false } ∧ s.OthersStand u t.port ∧
          u.table.parking = s.table.parking) ∧
        s.ChangesOnly u [.sequencer, .array, .entries, .asked, .ports, .parking]

/-- The completion of a LOCKED-READ's operation, with its reservation effect by the rows of R91. -/
def Obligations.LockedReadReservation : Prop :=
  ∀ (s : State) (o : Operation) (t : PortTerms) (d : DecodeResult), s.InFlight o .read → o.served = .port t →
    o.target = .word t.msg.addr → o.decoded = some d → t.kind = .lockedRead →
    pageOf t.msg.addr < s.pageMap.entries.length → s.ArraySound →
    Completes .readOpCompletes s fun u =>
      u.sequencer = none ∧ s.WordBecomes u t.msg.addr (o.settled.map encode) ∧
      s.ReportsMade u t.msg.addr (.port t.port) d ∧
      ((s.port t.port).orphan = false → s.AnsweredWith u t.port (responseOf o t)) ∧
      ((s.port t.port).orphan = true →
        u.port t.port = { s.port t.port with orphan := false } ∧ s.OthersStand u t.port ∧
        u.table = s.table) ∧
      (d.uncorrectable = true → u.table.entries = s.table.entries) ∧
      ((s.entry (pageOf t.msg.addr)).mayWrite t.port = false → u.table.entries = s.table.entries) ∧
      (d.uncorrectable = false → (s.port t.port).orphan = false →
        (s.entry (pageOf t.msg.addr)).mayWrite t.port = true →
        (heldBy s.table.entries t.port t.msg.addr = true →
          u.table.entries = s.table.entries.map fun e =>
            if e.port = t.port ∧ e.addr = t.msg.addr then
              { e with timer := .running s.control.items.reservationLifetime } else e) ∧
        (heldBy s.table.entries t.port t.msg.addr = false →
          u.table.entries = s.table.entries ++
            [{ port := t.port, addr := t.msg.addr, timer := .running s.control.items.reservationLifetime }] ∧
          u.ParkingSound)) ∧
      ((s.port t.port).orphan = false → s.ParkingSound → u.ParkingSound) ∧
      s.ChangesOnly u [.sequencer, .array, .entries, .asked, .ports, .reservations, .parking]

/-- R134, whole: the completion of a REFRESH lowers the owed count, advances the row counter from 8191 to 0, makes no
other report, and leaves the controller a candidate while it owes; with a running out of the timer in either order,
the three rows of the table. -/
def Obligations.RefreshCompletes : Prop :=
  ∀ (s : State) (o : Operation), s.InFlight o .refresh → o.served = .refreshController → o.decoded = none →
    o.settled = none → 1 ≤ s.refresh.owed →
    (Completes .refreshCompletes s fun t =>
      t.refresh.owed + 1 = s.refresh.owed ∧ t.refresh.row.toNat = (s.refresh.row.toNat + 1) % 8192 ∧
      t.refresh.timer = s.refresh.timer ∧ t.sequencer = none ∧ s.ChangesOnly t [.sequencer, .refresh] ∧
      (1 ≤ t.refresh.owed → t.Stands .refreshController ∧ t.arbiterChoice ≠ none)) ∧
    ∀ loaded, s.refresh.timer = .running loaded → s.refresh.owed ≤ 8 →
      ∃ done both ranOut both',
        exec .refreshCompletes s = .next done ∧ exec .refreshIntervalRunsOut done = .next both ∧
        exec .refreshIntervalRunsOut s = .next ranOut ∧ exec .refreshCompletes ranOut = .next both' ∧
        both.refresh.row.toNat = (s.refresh.row.toNat + 1) % 8192 ∧
        both'.refresh.row.toNat = (s.refresh.row.toNat + 1) % 8192 ∧
        (s.refresh.owed ≤ 7 → both.refresh.owed = s.refresh.owed ∧ both'.refresh.owed = s.refresh.owed ∧
          both.log.asked = s.log.asked ∧ both'.log.asked = s.log.asked) ∧
        (s.refresh.owed = 8 → done.refresh.owed = 7 ∧ both.refresh.owed = 8 ∧ both.log.asked = s.log.asked ∧
          ranOut.refresh.owed = 8 ∧ ranOut.log.asked = s.log.asked ++ [.refreshOverrun] ∧ both'.refresh.owed = 7)

/-- The completion of a CLEAR: the word holds 40 zero bits and progress rises; after offset 4095 the page is FREE and leaves
the queue, and a queue emptied in INIT makes the device SETUP with READY asked for (R143, R167). The requests that wait at
the notice log then are taken first, the oldest first, each as NOTICE_RECORD_CREATE takes it (log entry 25). -/
def Obligations.ClearCompletes : Prop :=
  ∀ (s : State) (o : Operation) (a n : Nat) (rest : List Nat), s.InFlight o .clear → o.served = .clearEngine →
    o.decoded = none → o.settled = some { data := 0#32, guard := false } → o.target = .word a →
    s.clear.queue = n :: rest → s.ArraySound →
    (s.clear.progress < 4095 →
      Completes .clearCompletes s fun t =>
        t.clear = { queue := n :: rest, progress := s.clear.progress + 1 } ∧ t.sequencer = none ∧
        s.WordBecomes t a (some 0#40) ∧ s.ChangesOnly t [.clear, .sequencer, .array]) ∧
    (s.clear.progress = 4095 → n < s.pageMap.entries.length →
      Completes .clearCompletes s fun t =>
        t.clear = { queue := rest, progress := 0 } ∧ t.sequencer = none ∧ s.WordBecomes t a (some 0#40) ∧
        s.EntryBecomes t n { s.entry n with state := .free } ∧
        (rest = [] → s.control.device = .init →
          t.control = { s.control with device := .setup } ∧ t.log.asked = [.ready] ∧
          (s.log.asked = [] → s.ChangesOnly t [.clear, .sequencer, .array, .entries, .control, .asked]) ∧
          s.ChangesOnly t [.clear, .sequencer, .array, .entries, .control, .records, .sequence, .lost, .lines, .asked] ∧
          ∀ r waiting, s.log.asked = r :: waiting →
            Completes (.noticeRecordCreate r.asker) s fun u =>
              u.log.asked = waiting ∧ exec .clearCompletes s = exec .clearCompletes u) ∧
        ((rest ≠ [] ∨ s.control.device ≠ .init) → s.ChangesOnly t [.clear, .sequencer, .array, .entries]))

/-- The completion of a SCRUB: what is settled is stored encoded, the reports name SCRUB as finder, the position advances,
from the last word to 0 with one pass more, and the pending flag clears (R149). -/
def Obligations.ScrubCompletes : Prop :=
  ∀ (s : State) (o : Operation) (a : Nat) (d : DecodeResult), s.InFlight o .scrub → o.served = .scrubEngine →
    o.decoded = some d → o.target = .word a → pageOf a < s.pageMap.entries.length → s.ArraySound →
    s.scrub.position < s.size →
    Completes .scrubCompletes s fun t =>
      t.sequencer = none ∧ s.WordBecomes t a (o.settled.map encode) ∧ s.ReportsMade t a .scrub d ∧
      (s.scrub.position + 1 < s.size →
        t.scrub = { s.scrub with position := s.scrub.position + 1, pending := false }) ∧
      (s.scrub.position + 1 = s.size →
        t.scrub.position = 0 ∧ t.scrub.passes.toNat = (s.scrub.passes.toNat + 1) % 65536 ∧
        t.scrub.pending = false ∧ t.scrub.timer = s.scrub.timer) ∧
      s.ChangesOnly t [.sequencer, .array, .entries, .asked, .scrub]

/-! ### Timers -/

/-- The interval timers: the owed count rises below 8, at 8 REFRESH-OVERRUN is asked for, and the timer restarts at the
configured interval (R130, R131); the scrub-pending flag is set and the timer restarts (R147). A stopped timer does
not run out (the model's choice, log entry 9). -/
def Obligations.IntervalsRunOut : Prop :=
  ∀ s : State,
    (∀ loaded, s.refresh.timer = .running loaded →
      Completes .refreshIntervalRunsOut s fun t =>
        t.refresh.timer = .running s.control.items.refreshInterval ∧ t.refresh.row = s.refresh.row ∧
        (s.refresh.owed < 8 → t.refresh.owed = s.refresh.owed + 1 ∧ t.log.asked = s.log.asked) ∧
        (8 ≤ s.refresh.owed → t.refresh.owed = s.refresh.owed ∧ t.log.asked = s.log.asked ++ [.refreshOverrun]) ∧
        s.ChangesOnly t [.refresh, .asked]) ∧
    (s.refresh.timer = .stopped → exec .refreshIntervalRunsOut s = .next s) ∧
    (∀ loaded, s.scrub.timer = .running loaded →
      Completes .scrubIntervalRunsOut s fun t =>
        t.scrub = { s.scrub with pending := true, timer := .running s.control.items.scrubInterval } ∧
        s.ChangesOnly t [.scrub]) ∧
    (s.scrub.timer = .stopped → exec .scrubIntervalRunsOut s = .next s)

/-- The lifetimes: the entry on the word goes and parking is evaluated afresh, with no notice (R88, R98); the offer goes, its
page returns to HELD with everything else kept, and OFFER-LAPSED is asked for both parties (R76). Where no entry
stands, no lifetime runs out (the model's choice, log entry 9). -/
def Obligations.LifetimesRunOut : Prop :=
  ∀ s : State,
    (∀ addr, (∃ e ∈ s.table.entries, e.addr = addr) →
      Completes (.reservationLifetimeRunsOut addr) s fun t =>
        t.table.entries = s.table.entries.filter (fun e => decide (e.addr ≠ addr)) ∧ t.ParkingSound ∧
        s.ChangesOnly t [.reservations, .parking]) ∧
    (∀ addr, (∀ e ∈ s.table.entries, e.addr ≠ addr) → exec (.reservationLifetimeRunsOut addr) s = .next s) ∧
    (∀ page, s.offerOf page = none → exec (.offerLifetimeRunsOut page) s = .next s) ∧
    ∀ page o, s.offerOf page = some o → (s.entry page).state = .offered →
      Completes (.offerLifetimeRunsOut page) s fun t =>
        t.pageMap.offers = s.pageMap.offers.filter (fun x => decide (x.page ≠ page)) ∧
        s.EntryBecomes t page { s.entry page with state := .held } ∧
        t.log.asked = s.log.asked ++ [.offerExpired page o.fromPort o.toPort] ∧
        s.ChangesOnly t [.offers, .entries, .asked]

/-! ### Requests taken by their owner block -/

/-- R97, whole: UNLOCK takes the requester's entry on the word, evaluates parking afresh and is answered OK, whatever the
page entry; without one it is answered LAPSED and changes nothing; a removal of the entry taken first makes it
LAPSED. The response carries no data and a clear corrected flag. -/
def Obligations.UnlockTaken : Prop :=
  ∀ (s : State) (p : Port) (m : Request), s.Routed p m .unlock →
    (heldBy s.table.entries p m.addr = true →
      (Completes (.unlock p) s fun t =>
        s.AnsweredWith t p { tag := m.tag, status := .ok, corrected := false, data := none, guard := none, image := none } ∧
        t.table.entries = s.table.entries.filter (fun e => !(decide (e.port = p) && decide (e.addr = m.addr))) ∧
        heldBy t.table.entries p m.addr = false ∧ t.ParkingSound ∧
        s.ChangesOnly t [.ports, .reservations, .parking]) ∧
      Completes (.reservationLifetimeRunsOut m.addr) s fun gone =>
        Completes (.unlock p) gone fun t => gone.RefusedWith t p m .lapsed) ∧
    (heldBy s.table.entries p m.addr = false → Completes (.unlock p) s fun t => s.RefusedWith t p m .lapsed)

/-- CLAIM of a FREE page makes the requester its owner with empty sets and the guard mode it names, the correction
history kept (R62); of a HELD or OFFERED page it is answered TAKEN, of a CLEARING one CLEARING (R61, R63). -/
def Obligations.ClaimTaken : Prop :=
  ∀ (s : State) (p : Port) (m : Request), s.Routed p m .claim →
    ((s.entry m.page).state = .free →
      Completes (.claim p) s fun t =>
        s.EntryBecomes t m.page
          { state := .held, owner := some p, readSet := ⟨false, false, false, false⟩,
            writeSet := ⟨false, false, false, false⟩, guardMode := m.guardMode,
            corrected := (s.entry m.page).corrected, weak := (s.entry m.page).weak } ∧
        s.AnsweredWith t p (plainResponse m .ok) ∧ s.Remarked t p ∧ s.ChangesOnly t [.entries, .ports, .parking]) ∧
    (((s.entry m.page).state = .held ∨ (s.entry m.page).state = .offered) →
      Completes (.claim p) s fun t => s.RefusedWith t p m .taken) ∧
    ((s.entry m.page).state = .clearing → Completes (.claim p) s fun t => s.RefusedWith t p m .clearing)

/-- GRANT: the checks of R61 in order; with right WRITE the target enters both sets (R64); with right READ it enters the
read set and leaves the write set, a downgrade dropping its reservations on the page (R65, R101). -/
def Obligations.GrantTaken : Prop :=
  ∀ (s : State) (p : Port) (m : Request), s.Routed p m .grant →
    ((s.entry m.page).ownedBy p = false → Completes (.grant p) s fun t => s.RefusedWith t p m .notOwner) ∧
    ((s.entry m.page).ownedBy p = true → (s.entry m.page).state = .offered →
      Completes (.grant p) s fun t => s.RefusedWith t p m .pending) ∧
    ((s.entry m.page).ownedBy p = true → (s.entry m.page).state = .held →
      (((s.port m.target).state ≠ .active ∨ m.target = p) →
        Completes (.grant p) s fun t => s.RefusedWith t p m .badTarget) ∧
      ((s.port m.target).state = .active → m.target ≠ p →
        Completes (.grant p) s fun t =>
          s.EntryBecomes t m.page { s.entry m.page with
            readSet := (s.entry m.page).readSet.set m.target true,
            writeSet := (s.entry m.page).writeSet.set m.target m.rightWrite } ∧
          s.AnsweredWith t p (plainResponse m .ok) ∧
          ((m.rightWrite = true ∨ (s.entry m.page).writeSet.get m.target = false) →
            t.table.entries = s.table.entries ∧ s.Remarked t p) ∧
          (m.rightWrite = false → (s.entry m.page).writeSet.get m.target = true →
            t.table.entries =
              s.table.entries.filter (fun e => !(decide (e.port = m.target) && decide (pageOf e.addr = m.page))) ∧
            t.ParkingSound) ∧
          s.ChangesOnly t [.entries, .ports, .reservations, .parking]))

/-- REVOKE: the checks of R61 in order, the target not ABSENT and not the owner; it leaves both sets and its reservations on
the page are dropped (R67, R101). -/
def Obligations.RevokeTaken : Prop :=
  ∀ (s : State) (p : Port) (m : Request), s.Routed p m .revoke →
    ((s.entry m.page).ownedBy p = false → Completes (.revoke p) s fun t => s.RefusedWith t p m .notOwner) ∧
    ((s.entry m.page).ownedBy p = true → (s.entry m.page).state = .offered →
      Completes (.revoke p) s fun t => s.RefusedWith t p m .pending) ∧
    ((s.entry m.page).ownedBy p = true → (s.entry m.page).state = .held →
      (((s.port m.target).state = .absent ∨ m.target = p) →
        Completes (.revoke p) s fun t => s.RefusedWith t p m .badTarget) ∧
      ((s.port m.target).state ≠ .absent → m.target ≠ p →
        Completes (.revoke p) s fun t =>
          s.EntryBecomes t m.page { s.entry m.page with
            readSet := (s.entry m.page).readSet.set m.target false,
            writeSet := (s.entry m.page).writeSet.set m.target false } ∧
          s.AnsweredWith t p (plainResponse m .ok) ∧
          t.table.entries =
            s.table.entries.filter (fun e => !(decide (e.port = m.target) && decide (pageOf e.addr = m.page))) ∧
          t.ParkingSound ∧ s.ChangesOnly t [.entries, .ports, .reservations, .parking]))

/-- RELEASE: the checks of R61; the owner, the sets and the guard mode go, every reservation on the page is dropped, and
the page is FREE, or CLEARING and at the tail of the clear queue (R68, R101, R141). -/
def Obligations.ReleaseTaken : Prop :=
  ∀ (s : State) (p : Port) (m : Request), s.Routed p m .release →
    ((s.entry m.page).ownedBy p = false → Completes (.release p) s fun t => s.RefusedWith t p m .notOwner) ∧
    ((s.entry m.page).ownedBy p = true → (s.entry m.page).state = .offered →
      Completes (.release p) s fun t => s.RefusedWith t p m .pending) ∧
    ((s.entry m.page).ownedBy p = true → (s.entry m.page).state = .held →
      Completes (.release p) s fun t =>
        s.EntryBecomes t m.page
          { state := if m.clearOption then .clearing else .free, owner := none, readSet := ⟨false, false, false, false⟩,
            writeSet := ⟨false, false, false, false⟩, guardMode := .off,
            corrected := (s.entry m.page).corrected, weak := (s.entry m.page).weak } ∧
        s.AnsweredWith t p (plainResponse m .ok) ∧
        t.table.entries = s.table.entries.filter (fun e => decide (pageOf e.addr ≠ m.page)) ∧ t.ParkingSound ∧
        (m.clearOption = false → t.clear = s.clear) ∧
        (m.clearOption = true → t.clear.queue = s.clear.queue ++ [m.page] ∧
          t.clear.progress = if s.clear.queue = [] then 0 else s.clear.progress) ∧
        s.ChangesOnly t [.entries, .ports, .reservations, .parking, .clear])

/-- OFFER: the checks of R61 in order; the page is OFFERED, an entry with its timer started stands at the tail of the offer
list, and OFFER-MADE is asked for (R72). -/
def Obligations.OfferTaken : Prop :=
  ∀ (s : State) (p : Port) (m : Request), s.Routed p m .offer →
    ((s.entry m.page).ownedBy p = false → Completes (.offer p) s fun t => s.RefusedWith t p m .notOwner) ∧
    ((s.entry m.page).ownedBy p = true → (s.entry m.page).state = .offered →
      Completes (.offer p) s fun t => s.RefusedWith t p m .pending) ∧
    ((s.entry m.page).ownedBy p = true → (s.entry m.page).state = .held →
      (((s.port m.target).state ≠ .active ∨ m.target = p) →
        Completes (.offer p) s fun t => s.RefusedWith t p m .badTarget) ∧
      ((s.port m.target).state = .active → m.target ≠ p →
        (8 ≤ s.pageMap.offers.length → Completes (.offer p) s fun t => s.RefusedWith t p m .noRoom) ∧
        (s.pageMap.offers.length < 8 →
          Completes (.offer p) s fun t =>
            s.EntryBecomes t m.page { s.entry m.page with state := .offered } ∧
            t.pageMap.offers = s.pageMap.offers ++
              [{ page := m.page, fromPort := p, toPort := m.target,
                 timer := .running s.control.items.offerLifetime }] ∧
            t.log.asked = s.log.asked ++ [.offerMade m.page p m.target] ∧
            s.AnsweredWith t p (plainResponse m .ok) ∧ s.Remarked t p ∧
            s.ChangesOnly t [.entries, .offers, .asked, .ports, .parking])))

/-- ACCEPT by the to-port of the page's offer makes it owner with empty sets, drops every reservation on the page, removes
the offer and asks for PAGE-ACCEPTED; guard mode and history are kept (R74); otherwise NO-OFFER. -/
def Obligations.AcceptTaken : Prop :=
  ∀ (s : State) (p : Port) (m : Request), s.Routed p m .accept →
    (∀ o, s.offerOf m.page = some o → o.toPort = p → (s.entry m.page).state = .offered →
      Completes (.accept p) s fun t =>
        s.EntryBecomes t m.page { s.entry m.page with
          state := .held, owner := some p, readSet := ⟨false, false, false, false⟩,
          writeSet := ⟨false, false, false, false⟩ } ∧
        t.pageMap.offers = s.pageMap.offers.filter (fun x => decide (x.page ≠ m.page)) ∧
        t.table.entries = s.table.entries.filter (fun e => decide (pageOf e.addr ≠ m.page)) ∧ t.ParkingSound ∧
        t.log.asked = s.log.asked ++ [.pageAccepted m.page o.fromPort p] ∧
        s.AnsweredWith t p (plainResponse m .ok) ∧
        s.ChangesOnly t [.entries, .offers, .asked, .ports, .reservations, .parking]) ∧
    (((s.entry m.page).state ≠ .offered ∨ ∀ o, s.offerOf m.page = some o → o.toPort ≠ p) →
      Completes (.accept p) s fun t => s.RefusedWith t p m .noOffer)

/-- R75, whole: WITHDRAW by the owner of an OFFERED page removes the offer and returns the page to HELD, everything else
of it kept, with no notice; a later ACCEPT of the page is answered NO-OFFER, and its page entry image shows HELD and no
offer target; from a port that is not the owner it is answered NOT-OWNER, from the owner of a HELD page NO-OFFER. -/
def Obligations.WithdrawTaken : Prop :=
  ∀ (s : State) (p : Port) (m : Request), s.Routed p m .withdraw →
    ((s.entry m.page).ownedBy p = true → (s.entry m.page).state = .offered →
      Completes (.withdraw p) s fun t =>
        s.EntryBecomes t m.page { s.entry m.page with state := .held } ∧
        t.pageMap.offers = s.pageMap.offers.filter (fun x => decide (x.page ≠ m.page)) ∧
        s.AnsweredWith t p (plainResponse m .ok) ∧ s.Remarked t p ∧
        s.ChangesOnly t [.entries, .offers, .ports, .parking] ∧
        (∀ q later, t.Routed q later .accept → later.page = m.page →
          Completes (.accept q) t fun u => t.RefusedWith u q later .noOffer) ∧
        (t.pageImage m.page).state = .held ∧ (t.pageImage m.page).offerTarget = none) ∧
    ((s.entry m.page).ownedBy p = false → Completes (.withdraw p) s fun t => s.RefusedWith t p m .notOwner) ∧
    ((s.entry m.page).ownedBy p = true → (s.entry m.page).state = .held →
      Completes (.withdraw p) s fun t => s.RefusedWith t p m .noOffer)

/-- PAGE-QUERY is answered OK with the page entry image, whoever asks and whatever the page's state, and changes nothing
else (R54). -/
def Obligations.PageQueryTaken : Prop :=
  ∀ (s : State) (p : Port) (m : Request), s.Routed p m .pageQuery →
    Completes (.pageQuery p) s fun t =>
      s.AnsweredWith t p
        { tag := m.tag, status := .ok, corrected := false, data := none, guard := none,
          image := some (.page
            { page := m.page, state := (s.entry m.page).state, owner := (s.entry m.page).owner,
              readSet := (s.entry m.page).readSet, writeSet := (s.entry m.page).writeSet,
              guardMode := (s.entry m.page).guardMode, offerTarget := (s.offerOf m.page).map OfferEntry.toPort,
              corrected := (s.entry m.page).corrected, weak := (s.entry m.page).weak }) } ∧
      s.Remarked t p ∧ s.ChangesOnly t [.ports, .parking]

/-- FETCH-NOTICE returns the image of the oldest record that holds the port, which leaves its recipient set; a record
with none left leaves the list; the port's line is high exactly while a record holds it; with no record for the port
it is answered NO-NOTICE (R160, R162). -/
def Obligations.FetchNoticeTaken : Prop :=
  ∀ (s : State) (p : Port) (m : Request), s.Routed p m .fetchNotice →
    ((∀ r ∈ s.log.records, r.recipients.get p = false) →
      Completes (.fetchNotice p) s fun t => s.RefusedWith t p m .noNotice) ∧
    ∀ older r newer, s.log.records = older ++ r :: newer → (∀ x ∈ older, x.recipients.get p = false) →
      r.recipients.get p = true →
      Completes (.fetchNotice p) s fun t =>
        s.AnsweredWith t p
          { tag := m.tag, status := .ok, corrected := false, data := none, guard := none,
            image := some (.notice r.image) } ∧
        ((∀ q, q ≠ p → r.recipients.get q = false) → t.log.records = older ++ newer) ∧
        (∀ q, q ≠ p → r.recipients.get q = true →
          t.log.records = older ++ { r with recipients := r.recipients.set p false } :: newer) ∧
        (t.log.lines.get p = true ↔ ∃ x ∈ newer, x.recipients.get p = true) ∧
        (∀ q, q ≠ p → t.log.lines.get q = s.log.lines.get q) ∧
        s.Remarked t p ∧ s.ChangesOnly t [.records, .lines, .ports, .parking]

/-- CTL-READ returns the value of the control word, in any device state, and changes nothing else; an unused index is
answered BAD-VALUE (R174 to R177, R181). -/
def Obligations.CtlReadTaken : Prop :=
  ∀ (s : State) (p : Port) (m : Request), s.Routed p m .ctlRead →
    (∀ v : Word, (m.controlIndex, v) ∈
        [(0, 0x1D4E#32), (1, 2640#32), (2, 1#32),
          (3, if s.control.device = .init then 0#32 else if s.control.device = .setup then 1#32 else 2#32),
          (4, BitVec.ofNat 32 s.size), (5, BitVec.ofNat 32 s.pageCount), (6, s.control.straps.word),
          (8, BitVec.ofNat 32 s.control.items.refreshInterval), (9, BitVec.ofNat 32 s.control.items.scrubInterval),
          (10, BitVec.ofNat 32 s.control.items.reservationLifetime),
          (11, BitVec.ofNat 32 s.control.items.offerLifetime),
          (12, BitVec.ofNat 32 s.control.items.writeBack.toNat), (13, BitVec.ofNat 32 s.control.items.logging.toNat),
          (14, BitVec.ofNat 32 s.control.items.weakThreshold)] ++
        [(15, Port.p0), (16, .p1), (17, .p2), (18, .p3)].map
          (fun x => (x.1, BitVec.ofNat 32 (s.isPriority x.2).toNat)) ++
        [(20, Port.p0), (21, .p1), (22, .p2), (23, .p3)].map
          (fun x => (x.1, portStatusWord (s.port x.2) (s.isPriority x.2))) ++
        [(24, s.refresh.word), (25, BitVec.ofNat 32 s.scrub.position), (26, s.scrub.passes.setWidth 32),
          (27, s.clear.word), (28, BitVec.ofNat 32 s.pageMap.offers.length),
          (29, BitVec.ofNat 32 s.table.entries.length), (30, BitVec.ofNat 32 s.log.records.length),
          (31, BitVec.ofNat 32 s.log.lost), (32, s.log.sequence.setWidth 32)] ++
        (List.range 8).map (fun k => (40 + k, reservationWord s.table.entries[k]?)) →
      Completes (.ctlRead p) s fun t =>
        s.AnsweredWith t p
          { tag := m.tag, status := .ok, corrected := false, data := some v, guard := none, image := none } ∧
        s.Remarked t p ∧ s.ChangesOnly t [.ports, .parking]) ∧
    (m.controlIndex ∈ [7, 19, 33, 34, 35, 36, 37, 38, 39] ∨ 48 ≤ m.controlIndex →
      Completes (.ctlRead p) s fun t => s.RefusedWith t p m .badValue) ∧
    s.control.straps.word.toNat = s.control.straps.msize.toNat + s.control.straps.pen.p0.toNat * 16 +
      s.control.straps.pen.p1.toNat * 32 + s.control.straps.pen.p2.toNat * 64 + s.control.straps.pen.p3.toNat * 128 ∧
    (∀ (r : PortRecord) (priority : Bool), r.outstanding ≤ 8 →
      (portStatusWord r priority).toNat =
        (if r.state = .absent then 0 else if r.state = .reset then 1 else 2) + r.outstanding * 2 ^ 4 + priority.toNat * 2 ^ 8) ∧
    (s.refresh.owed ≤ 8 → s.refresh.word.toNat = s.refresh.owed + s.refresh.row.toNat * 2 ^ 16) ∧
    (s.clear.queue.length ≤ 1024 → s.clear.progress < 4096 →
      s.clear.word.toNat = s.clear.queue.length + s.clear.progress * 2 ^ 16) ∧
    reservationWord none = 0#32 ∧
    ∀ e : Reservation, e.addr < 2 ^ 22 →
      (reservationWord (some e)).toNat = e.addr + e.port.num * 2 ^ 24 + 2 ^ 31

/-- CTL-WRITE: the index, then the device state, then the value (R173); in SETUP the item takes the value, and LOST COUNT
takes 0 in every device state (R165, R172). The row LOST_COUNT is that write of LOST COUNT (log entry 13). -/
def Obligations.CtlWriteTaken : Prop :=
  ∀ (s : State) (p : Port) (m : Request), s.Routed p m .ctlWrite →
    ((m.controlIndex < 8 ∨ (18 < m.controlIndex ∧ m.controlIndex ≠ 31)) →
      Completes (.ctlWrite p) s fun t => s.RefusedWith t p m .badValue) ∧
    (8 ≤ m.controlIndex → m.controlIndex ≤ 18 →
      (s.control.device = .init → Completes (.ctlWrite p) s fun t => s.RefusedWith t p m .notReady) ∧
      (s.control.device = .run → Completes (.ctlWrite p) s fun t => s.RefusedWith t p m .frozen) ∧
      (s.control.device = .setup →
        (∀ low high, (m.controlIndex, low, high) ∈
            [(8, 1, 31), (9, 0, 65535), (10, 1, 65535), (11, 1, 65535), (12, 0, 1), (13, 0, 1), (14, 0, 255),
              (15, 0, 1), (16, 0, 1), (17, 0, 1), (18, 0, 1)] →
          ((m.data.toNat < low ∨ high < m.data.toNat) →
            Completes (.ctlWrite p) s fun t => s.RefusedWith t p m .badValue) ∧
          (low ≤ m.data.toNat → m.data.toNat ≤ high →
            Completes (.ctlWrite p) s fun t =>
              (∀ items, (m.controlIndex, items) ∈
                  [(8, { s.control.items with refreshInterval := m.data.toNat }),
                    (9, { s.control.items with scrubInterval := m.data.toNat }),
                    (10, { s.control.items with reservationLifetime := m.data.toNat }),
                    (11, { s.control.items with offerLifetime := m.data.toNat }),
                    (12, { s.control.items with writeBack := decide (m.data.toNat = 1) }),
                    (13, { s.control.items with logging := decide (m.data.toNat = 1) }),
                    (14, { s.control.items with weakThreshold := m.data.toNat }),
                    (15, { s.control.items with priority := s.control.items.priority.set .p0 (decide (m.data.toNat = 1)) }),
                    (16, { s.control.items with priority := s.control.items.priority.set .p1 (decide (m.data.toNat = 1)) }),
                    (17, { s.control.items with priority := s.control.items.priority.set .p2 (decide (m.data.toNat = 1)) }),
                    (18, { s.control.items with priority := s.control.items.priority.set .p3 (decide (m.data.toNat = 1)) })] →
                t.control = { s.control with items := items }) ∧
              s.AnsweredWith t p (plainResponse m .ok) ∧ s.Remarked t p ∧
              s.ChangesOnly t [.control, .ports, .parking])))) ∧
    (m.controlIndex ≠ 31 → exec (.lostCount p) s = .next s) ∧
    (m.controlIndex = 31 → ∀ i, i ∈ [Instr.ctlWrite p, .lostCount p] →
      (m.data = 0#32 →
        Completes i s fun t =>
          t.log.lost = 0 ∧ s.AnsweredWith t p (plainResponse m .ok) ∧ s.Remarked t p ∧
          s.ChangesOnly t [.lost, .ports, .parking]) ∧
      (m.data ≠ 0#32 → Completes i s fun t => s.RefusedWith t p m .badValue))

/-- START: NOT-READY in INIT, OK with no change in RUN; in SETUP the device enters RUN, the scrub engine starts, STARTED is
asked for and the START is answered OK (R147, R168). -/
def Obligations.StartTaken : Prop :=
  ∀ (s : State) (p : Port) (m : Request), s.Routed p m .start →
    (s.control.device = .init → Completes (.start p) s fun t => s.RefusedWith t p m .notReady) ∧
    (s.control.device = .run → Completes (.start p) s fun t => s.RefusedWith t p m .ok) ∧
    (s.control.device = .setup →
      Completes (.start p) s fun t =>
        t.control = { s.control with device := .run } ∧
        t.scrub.position = 0 ∧ t.scrub.passes = 0#16 ∧ t.scrub.pending = false ∧
        (s.control.items.scrubInterval = 0 → t.scrub.timer = .stopped) ∧
        (s.control.items.scrubInterval ≠ 0 → t.scrub.timer = .running s.control.items.scrubInterval) ∧
        t.log.asked = s.log.asked ++ [.started p] ∧
        s.AnsweredWith t p (plainResponse m .ok) ∧ s.Remarked t p ∧
        s.ChangesOnly t [.control, .scrub, .asked, .ports, .parking])

/-- The notice log takes the oldest request a block has handed over (R157; the waiting requests are the model's, log entry
12): its fields are those of R153; the recipient set of R155 is formed from the port states of that moment; an empty one makes no record; else
the record takes the sequence number, and joins the list and raises lines, or with 16 held is lost (R156, R162). READY,
once it is the oldest that waits, is taken before all others (R164, R167; log entry 25). With nothing handed over by the
block, nothing is taken (log entry 9). -/
def Obligations.NoticeRecordCreated : Prop :=
  (∀ (sequence : BitVec 16) (addr page : Nat) (syndrome : BitVec 6) (sub : Subclass) (finder : Finder) (info : PageInfo)
      (a b : Port),
    (NoticeRequest.corrected addr page syndrome sub finder info).image sequence =
      { sequence := sequence, kind := .corrected, addr := some addr, page := some page, syndrome := some syndrome,
        cls := some (if sub = .data then .singleData else if sub = .guard then .singleGuard else .singleCheck),
        foundBy := some finder, other := none } ∧
    (∀ double, (NoticeRequest.uncorrectable addr page syndrome double finder info).image sequence =
      { sequence := sequence, kind := .uncorrectable, addr := some addr, page := some page, syndrome := some syndrome,
        cls := some (if double then .double else .multiple), foundBy := some finder, other := none }) ∧
    (∀ r kind, (r, kind) ∈ [(NoticeRequest.refreshOverrun, NoticeKind.refreshOverrun), (.portOverrun a, .portOverrun),
        (.ready, .ready), (.started a, .started)] →
      r.image sequence =
        { sequence := sequence, kind := kind, addr := none, page := none, syndrome := none, cls := none,
          foundBy := none, other := none }) ∧
    ∀ r kind other, (r, kind, other) ∈ [(NoticeRequest.weakPage page info, NoticeKind.weakPage, none),
        (.offerMade page a b, .offerMade, some a), (.offerExpired page a b, .offerLapsed, some b),
        (.offerCutByReset page a b, .offerLapsed, some a), (.pageAccepted page a b, .pageAccepted, some b)] →
      r.image sequence =
        { sequence := sequence, kind := kind, addr := none, page := some page, syndrome := none, cls := none,
          foundBy := none, other := other }) ∧
  (∀ (active : PortSet) (q : Port),
    (∀ addr page syndrome sub finder double info r,
      r ∈ [NoticeRequest.corrected addr page syndrome sub finder info,
        .uncorrectable addr page syndrome double finder info, .weakPage page info] →
      ((info.state = .held ∨ info.state = .offered) →
        (r.recipients active).get q = (active.get q && (decide (info.owner = some q) || info.readSet.get q))) ∧
      ((info.state = .free ∨ info.state = .clearing) → (r.recipients active).get q = active.get q)) ∧
    (NoticeRequest.recipients active .refreshOverrun).get q = active.get q ∧
    (NoticeRequest.recipients active .ready).get q = active.get q ∧
    (∀ p, (NoticeRequest.recipients active (.started p)).get q = (active.get q && decide (q ≠ p))) ∧
    (∀ p, (NoticeRequest.recipients active (.portOverrun p)).get q = (active.get q && decide (q = p))) ∧
    ∀ page a b,
      (NoticeRequest.recipients active (.offerMade page a b)).get q = (active.get q && decide (q = b)) ∧
      (NoticeRequest.recipients active (.pageAccepted page a b)).get q = (active.get q && decide (q = a)) ∧
      (NoticeRequest.recipients active (.offerExpired page a b)).get q =
        (active.get q && (decide (q = a) || decide (q = b))) ∧
      (NoticeRequest.recipients active (.offerCutByReset page a b)).get q = (active.get q && decide (q = b))) ∧
  (∀ (s : State) (asker : Asker), (∀ x ∈ s.log.asked, x.asker ≠ asker) →
    exec (.noticeRecordCreate asker) s = .next s) ∧
  ∀ (s : State) (asker : Asker) (before : List NoticeRequest) (r : NoticeRequest) (behind : List NoticeRequest),
    s.log.asked = before ++ r :: behind → r.asker = asker → (∀ x ∈ before, x.asker ≠ asker) →
    (s.log.asked.head? = some .ready → r ≠ .ready → exec (.noticeRecordCreate asker) s = .next s) ∧
    ((s.log.asked.head? = some .ready → before = []) →
      Completes (.noticeRecordCreate asker) s fun t =>
        t.log.asked = before ++ behind ∧
        ((∀ q, (r.recipients s.activePorts).get q = false) → s.ChangesOnly t [.asked]) ∧
        (∀ q, (r.recipients s.activePorts).get q = true →
          t.log.sequence.toNat = (s.log.sequence.toNat + 1) % 65536 ∧
          (s.log.records.length < 16 →
            t.log.records = s.log.records ++
              [{ image := r.image s.log.sequence, recipients := r.recipients s.activePorts }] ∧
            (r.image s.log.sequence).sequence = s.log.sequence ∧
            (∀ p, t.log.lines.get p = (s.log.lines.get p || (r.recipients s.activePorts).get p)) ∧
            s.ChangesOnly t [.asked, .sequence, .records, .lines]) ∧
          (16 ≤ s.log.records.length →
            t.log.lost = min 255 (s.log.lost + 1) ∧ s.ChangesOnly t [.asked, .sequence, .lost])))

/-! ### Every step -/

/-- A step takes the command at the front of the queue and executes it with the queue's rest; on an empty queue the part
stands (log entry 10); and every command answers a next state in every state: nothing stops the part. -/
def Obligations.StepRunsTheFrontCommand : Prop :=
  (∀ (s : State) (c : Instr), step (s.withPending (c :: s.pending)) = exec c s) ∧
  (∀ (s : State) (c : Instr) (rest : List Instr), s.pending = c :: rest → step s = exec c (s.withPending rest)) ∧
  (∀ s : State, s.pending = [] → step s = .next s) ∧
  ∀ (s : State) (c : Instr), ∃ t, exec c s = .next t

/-- The part held in cold reset meets every invariant. -/
def Obligations.ResetMeetsInvariant : Prop := State.reset.Inv

/-- Every step keeps the array in its canonical form. -/
def Obligations.ArrayStaysCanonical : Prop := ∀ s t : State, s.ArraySound → step s = .next t → t.ArraySound

/-- Every step keeps the owed count within 0 to 8, the streak count within 0 to 8 and the clear-share count within 0 to
16 (R109, R110, R131). -/
def Obligations.CountsStayInRange : Prop := ∀ s t : State, s.CountsSound → step s = .next t → t.CountsSound

/-- Every step keeps the notice log as R154 and R162 say: at most 16 records, each with a non-empty recipient set of
ACTIVE ports, and each line high exactly while a record is held for its port; and READY, while it waits, is the oldest
that waits (R164, R167; log entry 25). -/
def Obligations.LogStaysSound : Prop := ∀ s t : State, s.LogSound → step s = .next t → t.LogSound

/-- Every step keeps the ports as R19 and R24 say: the outstanding count is what the three places hold and at most 8, a
request waits only behind a current one, and a current request has passed its checks. -/
def Obligations.PortsStaySound : Prop := ∀ s t : State, s.PortsSound → step s = .next t → t.PortsSound

/-- Every step keeps the page entries as R40 to R42 say, the offer list as R71 says, the reservation table as R83 says
and the parking marks as R84 to R87 say. -/
def Obligations.AgreementsStaySound : Prop :=
  ∀ s t : State, s.Inv → step s = .next t →
    t.EntriesSound ∧ t.OffersSound ∧ t.ReservationsSound ∧ t.ParkingSound

/-- Every step keeps the rest of the invariant: the operation in flight as R114 and R115 say and the ports' GRANTED
phases and orphan marks with it, the clear queue as R140 says, the INIT clear as R145 says, the items in the ranges of
R172, the ports' states with their pins, and a part in cold reset at its reset values. -/
def Obligations.EnginesStaySound : Prop :=
  ∀ s t : State, s.Inv → step s = .next t →
    t.SequencerSound ∧ t.ClearSound ∧ t.BeforeRunSound ∧ t.InitClearSound ∧ t.control.items.Sound ∧ t.PinsSound ∧
      t.ColdResetSound
end

