-- ==== Sys2Proof/Laws/State.lean ====
section
/-! SUPPORT. Each field of State after each named update, and the values held for one port after an update. -/
namespace Sys2Proof

@[simp] theorem PerPort.get_set_same {α : Type} (v : PerPort α) (p : Port) (a : α) : (v.set p a).get p = a := by
  cases p <;> rfl

@[simp] theorem PerPort.get_set_of_ne {α : Type} (v : PerPort α) {p q : Port} (a : α) (h : q ≠ p) :
    (v.set p a).get q = v.get q := by
  cases p <;> cases q <;> first | rfl | exact absurd rfl h

@[simp] theorem PerPort.get_ofFn {α : Type} (f : Port → α) (p : Port) : (PerPort.ofFn f).get p = f p := by
  cases p <;> rfl

@[simp] theorem PerPort.get_all {α : Type} (a : α) (p : Port) : (PerPort.all a).get p = a := by
  cases p <;> rfl

/-- Two families agree when they agree at each port. -/
theorem PerPort.eq_of_get {α : Type} {v w : PerPort α} (h : ∀ p, v.get p = w.get p) : v = w := by
  obtain ⟨a0, a1, a2, a3⟩ := v
  obtain ⟨b0, b1, b2, b3⟩ := w
  have h0 : a0 = b0 := h .p0
  have h1 : a1 = b1 := h .p1
  have h2 : a2 = b2 := h .p2
  have h3 : a3 = b3 := h .p3
  rw [h0, h1, h2, h3]

end Sys2Proof

namespace Sys2Proof.Machine

variable (s : State)

@[simp] theorem State.setTable_pins (t : ReservationTable) : (s.setTable t).pins = s.pins := rfl
@[simp] theorem State.setTable_ports (t : ReservationTable) : (s.setTable t).ports = s.ports := rfl
@[simp] theorem State.setTable_pageMap (t : ReservationTable) : (s.setTable t).pageMap = s.pageMap := rfl
@[simp] theorem State.setTable_table (t : ReservationTable) : (s.setTable t).table = t := rfl
@[simp] theorem State.setTable_arbiter (t : ReservationTable) : (s.setTable t).arbiter = s.arbiter := rfl
@[simp] theorem State.setTable_sequencer (t : ReservationTable) : (s.setTable t).sequencer = s.sequencer := rfl
@[simp] theorem State.setTable_refresh (t : ReservationTable) : (s.setTable t).refresh = s.refresh := rfl
@[simp] theorem State.setTable_clear (t : ReservationTable) : (s.setTable t).clear = s.clear := rfl
@[simp] theorem State.setTable_scrub (t : ReservationTable) : (s.setTable t).scrub = s.scrub := rfl
@[simp] theorem State.setTable_log (t : ReservationTable) : (s.setTable t).log = s.log := rfl
@[simp] theorem State.setTable_control (t : ReservationTable) : (s.setTable t).control = s.control := rfl
@[simp] theorem State.setTable_array (t : ReservationTable) : (s.setTable t).array = s.array := rfl
@[simp] theorem State.setTable_freeDraws (t : ReservationTable) : (s.setTable t).freeDraws = s.freeDraws := rfl
@[simp] theorem State.setTable_pending (t : ReservationTable) : (s.setTable t).pending = s.pending := rfl

@[simp] theorem State.setArbiter_pins (a : Arbiter) : (s.setArbiter a).pins = s.pins := rfl
@[simp] theorem State.setArbiter_ports (a : Arbiter) : (s.setArbiter a).ports = s.ports := rfl
@[simp] theorem State.setArbiter_pageMap (a : Arbiter) : (s.setArbiter a).pageMap = s.pageMap := rfl
@[simp] theorem State.setArbiter_table (a : Arbiter) : (s.setArbiter a).table = s.table := rfl
@[simp] theorem State.setArbiter_arbiter (a : Arbiter) : (s.setArbiter a).arbiter = a := rfl
@[simp] theorem State.setArbiter_sequencer (a : Arbiter) : (s.setArbiter a).sequencer = s.sequencer := rfl
@[simp] theorem State.setArbiter_refresh (a : Arbiter) : (s.setArbiter a).refresh = s.refresh := rfl
@[simp] theorem State.setArbiter_clear (a : Arbiter) : (s.setArbiter a).clear = s.clear := rfl
@[simp] theorem State.setArbiter_scrub (a : Arbiter) : (s.setArbiter a).scrub = s.scrub := rfl
@[simp] theorem State.setArbiter_log (a : Arbiter) : (s.setArbiter a).log = s.log := rfl
@[simp] theorem State.setArbiter_control (a : Arbiter) : (s.setArbiter a).control = s.control := rfl
@[simp] theorem State.setArbiter_array (a : Arbiter) : (s.setArbiter a).array = s.array := rfl
@[simp] theorem State.setArbiter_freeDraws (a : Arbiter) : (s.setArbiter a).freeDraws = s.freeDraws := rfl
@[simp] theorem State.setArbiter_pending (a : Arbiter) : (s.setArbiter a).pending = s.pending := rfl

@[simp] theorem State.setSequencer_pins (o : Option Operation) : (s.setSequencer o).pins = s.pins := rfl
@[simp] theorem State.setSequencer_ports (o : Option Operation) : (s.setSequencer o).ports = s.ports := rfl
@[simp] theorem State.setSequencer_pageMap (o : Option Operation) : (s.setSequencer o).pageMap = s.pageMap := rfl
@[simp] theorem State.setSequencer_table (o : Option Operation) : (s.setSequencer o).table = s.table := rfl
@[simp] theorem State.setSequencer_arbiter (o : Option Operation) : (s.setSequencer o).arbiter = s.arbiter := rfl
@[simp] theorem State.setSequencer_sequencer (o : Option Operation) : (s.setSequencer o).sequencer = o := rfl
@[simp] theorem State.setSequencer_refresh (o : Option Operation) : (s.setSequencer o).refresh = s.refresh := rfl
@[simp] theorem State.setSequencer_clear (o : Option Operation) : (s.setSequencer o).clear = s.clear := rfl
@[simp] theorem State.setSequencer_scrub (o : Option Operation) : (s.setSequencer o).scrub = s.scrub := rfl
@[simp] theorem State.setSequencer_log (o : Option Operation) : (s.setSequencer o).log = s.log := rfl
@[simp] theorem State.setSequencer_control (o : Option Operation) : (s.setSequencer o).control = s.control := rfl
@[simp] theorem State.setSequencer_array (o : Option Operation) : (s.setSequencer o).array = s.array := rfl
@[simp] theorem State.setSequencer_freeDraws (o : Option Operation) : (s.setSequencer o).freeDraws = s.freeDraws := rfl
@[simp] theorem State.setSequencer_pending (o : Option Operation) : (s.setSequencer o).pending = s.pending := rfl

@[simp] theorem State.setRefresh_pins (r : RefreshController) : (s.setRefresh r).pins = s.pins := rfl
@[simp] theorem State.setRefresh_ports (r : RefreshController) : (s.setRefresh r).ports = s.ports := rfl
@[simp] theorem State.setRefresh_pageMap (r : RefreshController) : (s.setRefresh r).pageMap = s.pageMap := rfl
@[simp] theorem State.setRefresh_table (r : RefreshController) : (s.setRefresh r).table = s.table := rfl
@[simp] theorem State.setRefresh_arbiter (r : RefreshController) : (s.setRefresh r).arbiter = s.arbiter := rfl
@[simp] theorem State.setRefresh_sequencer (r : RefreshController) : (s.setRefresh r).sequencer = s.sequencer := rfl
@[simp] theorem State.setRefresh_refresh (r : RefreshController) : (s.setRefresh r).refresh = r := rfl
@[simp] theorem State.setRefresh_clear (r : RefreshController) : (s.setRefresh r).clear = s.clear := rfl
@[simp] theorem State.setRefresh_scrub (r : RefreshController) : (s.setRefresh r).scrub = s.scrub := rfl
@[simp] theorem State.setRefresh_log (r : RefreshController) : (s.setRefresh r).log = s.log := rfl
@[simp] theorem State.setRefresh_control (r : RefreshController) : (s.setRefresh r).control = s.control := rfl
@[simp] theorem State.setRefresh_array (r : RefreshController) : (s.setRefresh r).array = s.array := rfl
@[simp] theorem State.setRefresh_freeDraws (r : RefreshController) : (s.setRefresh r).freeDraws = s.freeDraws := rfl
@[simp] theorem State.setRefresh_pending (r : RefreshController) : (s.setRefresh r).pending = s.pending := rfl

@[simp] theorem State.setClear_pins (c : ClearEngine) : (s.setClear c).pins = s.pins := rfl
@[simp] theorem State.setClear_ports (c : ClearEngine) : (s.setClear c).ports = s.ports := rfl
@[simp] theorem State.setClear_pageMap (c : ClearEngine) : (s.setClear c).pageMap = s.pageMap := rfl
@[simp] theorem State.setClear_table (c : ClearEngine) : (s.setClear c).table = s.table := rfl
@[simp] theorem State.setClear_arbiter (c : ClearEngine) : (s.setClear c).arbiter = s.arbiter := rfl
@[simp] theorem State.setClear_sequencer (c : ClearEngine) : (s.setClear c).sequencer = s.sequencer := rfl
@[simp] theorem State.setClear_refresh (c : ClearEngine) : (s.setClear c).refresh = s.refresh := rfl
@[simp] theorem State.setClear_clear (c : ClearEngine) : (s.setClear c).clear = c := rfl
@[simp] theorem State.setClear_scrub (c : ClearEngine) : (s.setClear c).scrub = s.scrub := rfl
@[simp] theorem State.setClear_log (c : ClearEngine) : (s.setClear c).log = s.log := rfl
@[simp] theorem State.setClear_control (c : ClearEngine) : (s.setClear c).control = s.control := rfl
@[simp] theorem State.setClear_array (c : ClearEngine) : (s.setClear c).array = s.array := rfl
@[simp] theorem State.setClear_freeDraws (c : ClearEngine) : (s.setClear c).freeDraws = s.freeDraws := rfl
@[simp] theorem State.setClear_pending (c : ClearEngine) : (s.setClear c).pending = s.pending := rfl

@[simp] theorem State.setScrub_pins (c : ScrubEngine) : (s.setScrub c).pins = s.pins := rfl
@[simp] theorem State.setScrub_ports (c : ScrubEngine) : (s.setScrub c).ports = s.ports := rfl
@[simp] theorem State.setScrub_pageMap (c : ScrubEngine) : (s.setScrub c).pageMap = s.pageMap := rfl
@[simp] theorem State.setScrub_table (c : ScrubEngine) : (s.setScrub c).table = s.table := rfl
@[simp] theorem State.setScrub_arbiter (c : ScrubEngine) : (s.setScrub c).arbiter = s.arbiter := rfl
@[simp] theorem State.setScrub_sequencer (c : ScrubEngine) : (s.setScrub c).sequencer = s.sequencer := rfl
@[simp] theorem State.setScrub_refresh (c : ScrubEngine) : (s.setScrub c).refresh = s.refresh := rfl
@[simp] theorem State.setScrub_clear (c : ScrubEngine) : (s.setScrub c).clear = s.clear := rfl
@[simp] theorem State.setScrub_scrub (c : ScrubEngine) : (s.setScrub c).scrub = c := rfl
@[simp] theorem State.setScrub_log (c : ScrubEngine) : (s.setScrub c).log = s.log := rfl
@[simp] theorem State.setScrub_control (c : ScrubEngine) : (s.setScrub c).control = s.control := rfl
@[simp] theorem State.setScrub_array (c : ScrubEngine) : (s.setScrub c).array = s.array := rfl
@[simp] theorem State.setScrub_freeDraws (c : ScrubEngine) : (s.setScrub c).freeDraws = s.freeDraws := rfl
@[simp] theorem State.setScrub_pending (c : ScrubEngine) : (s.setScrub c).pending = s.pending := rfl

@[simp] theorem State.setLog_pins (l : NoticeLog) : (s.setLog l).pins = s.pins := rfl
@[simp] theorem State.setLog_ports (l : NoticeLog) : (s.setLog l).ports = s.ports := rfl
@[simp] theorem State.setLog_pageMap (l : NoticeLog) : (s.setLog l).pageMap = s.pageMap := rfl
@[simp] theorem State.setLog_table (l : NoticeLog) : (s.setLog l).table = s.table := rfl
@[simp] theorem State.setLog_arbiter (l : NoticeLog) : (s.setLog l).arbiter = s.arbiter := rfl
@[simp] theorem State.setLog_sequencer (l : NoticeLog) : (s.setLog l).sequencer = s.sequencer := rfl
@[simp] theorem State.setLog_refresh (l : NoticeLog) : (s.setLog l).refresh = s.refresh := rfl
@[simp] theorem State.setLog_clear (l : NoticeLog) : (s.setLog l).clear = s.clear := rfl
@[simp] theorem State.setLog_scrub (l : NoticeLog) : (s.setLog l).scrub = s.scrub := rfl
@[simp] theorem State.setLog_log (l : NoticeLog) : (s.setLog l).log = l := rfl
@[simp] theorem State.setLog_control (l : NoticeLog) : (s.setLog l).control = s.control := rfl
@[simp] theorem State.setLog_array (l : NoticeLog) : (s.setLog l).array = s.array := rfl
@[simp] theorem State.setLog_freeDraws (l : NoticeLog) : (s.setLog l).freeDraws = s.freeDraws := rfl
@[simp] theorem State.setLog_pending (l : NoticeLog) : (s.setLog l).pending = s.pending := rfl

@[simp] theorem State.setControl_pins (c : ControlBlock) : (s.setControl c).pins = s.pins := rfl
@[simp] theorem State.setControl_ports (c : ControlBlock) : (s.setControl c).ports = s.ports := rfl
@[simp] theorem State.setControl_pageMap (c : ControlBlock) : (s.setControl c).pageMap = s.pageMap := rfl
@[simp] theorem State.setControl_table (c : ControlBlock) : (s.setControl c).table = s.table := rfl
@[simp] theorem State.setControl_arbiter (c : ControlBlock) : (s.setControl c).arbiter = s.arbiter := rfl
@[simp] theorem State.setControl_sequencer (c : ControlBlock) : (s.setControl c).sequencer = s.sequencer := rfl
@[simp] theorem State.setControl_refresh (c : ControlBlock) : (s.setControl c).refresh = s.refresh := rfl
@[simp] theorem State.setControl_clear (c : ControlBlock) : (s.setControl c).clear = s.clear := rfl
@[simp] theorem State.setControl_scrub (c : ControlBlock) : (s.setControl c).scrub = s.scrub := rfl
@[simp] theorem State.setControl_log (c : ControlBlock) : (s.setControl c).log = s.log := rfl
@[simp] theorem State.setControl_control (c : ControlBlock) : (s.setControl c).control = c := rfl
@[simp] theorem State.setControl_array (c : ControlBlock) : (s.setControl c).array = s.array := rfl
@[simp] theorem State.setControl_freeDraws (c : ControlBlock) : (s.setControl c).freeDraws = s.freeDraws := rfl
@[simp] theorem State.setControl_pending (c : ControlBlock) : (s.setControl c).pending = s.pending := rfl

@[simp] theorem State.setArray_pins (m : Memory) : (s.setArray m).pins = s.pins := rfl
@[simp] theorem State.setArray_ports (m : Memory) : (s.setArray m).ports = s.ports := rfl
@[simp] theorem State.setArray_pageMap (m : Memory) : (s.setArray m).pageMap = s.pageMap := rfl
@[simp] theorem State.setArray_table (m : Memory) : (s.setArray m).table = s.table := rfl
@[simp] theorem State.setArray_arbiter (m : Memory) : (s.setArray m).arbiter = s.arbiter := rfl
@[simp] theorem State.setArray_sequencer (m : Memory) : (s.setArray m).sequencer = s.sequencer := rfl
@[simp] theorem State.setArray_refresh (m : Memory) : (s.setArray m).refresh = s.refresh := rfl
@[simp] theorem State.setArray_clear (m : Memory) : (s.setArray m).clear = s.clear := rfl
@[simp] theorem State.setArray_scrub (m : Memory) : (s.setArray m).scrub = s.scrub := rfl
@[simp] theorem State.setArray_log (m : Memory) : (s.setArray m).log = s.log := rfl
@[simp] theorem State.setArray_control (m : Memory) : (s.setArray m).control = s.control := rfl
@[simp] theorem State.setArray_array (m : Memory) : (s.setArray m).array = m := rfl
@[simp] theorem State.setArray_freeDraws (m : Memory) : (s.setArray m).freeDraws = s.freeDraws := rfl
@[simp] theorem State.setArray_pending (m : Memory) : (s.setArray m).pending = s.pending := rfl

@[simp] theorem State.setPins_pins (p : Pins) : (s.setPins p).pins = p := rfl
@[simp] theorem State.setPins_ports (p : Pins) : (s.setPins p).ports = s.ports := rfl
@[simp] theorem State.setPins_pageMap (p : Pins) : (s.setPins p).pageMap = s.pageMap := rfl
@[simp] theorem State.setPins_table (p : Pins) : (s.setPins p).table = s.table := rfl
@[simp] theorem State.setPins_arbiter (p : Pins) : (s.setPins p).arbiter = s.arbiter := rfl
@[simp] theorem State.setPins_sequencer (p : Pins) : (s.setPins p).sequencer = s.sequencer := rfl
@[simp] theorem State.setPins_refresh (p : Pins) : (s.setPins p).refresh = s.refresh := rfl
@[simp] theorem State.setPins_clear (p : Pins) : (s.setPins p).clear = s.clear := rfl
@[simp] theorem State.setPins_scrub (p : Pins) : (s.setPins p).scrub = s.scrub := rfl
@[simp] theorem State.setPins_log (p : Pins) : (s.setPins p).log = s.log := rfl
@[simp] theorem State.setPins_control (p : Pins) : (s.setPins p).control = s.control := rfl
@[simp] theorem State.setPins_array (p : Pins) : (s.setPins p).array = s.array := rfl
@[simp] theorem State.setPins_freeDraws (p : Pins) : (s.setPins p).freeDraws = s.freeDraws := rfl
@[simp] theorem State.setPins_pending (p : Pins) : (s.setPins p).pending = s.pending := rfl

@[simp] theorem State.withPending_pins (l : List Instr) : (s.withPending l).pins = s.pins := rfl
@[simp] theorem State.withPending_ports (l : List Instr) : (s.withPending l).ports = s.ports := rfl
@[simp] theorem State.withPending_pageMap (l : List Instr) : (s.withPending l).pageMap = s.pageMap := rfl
@[simp] theorem State.withPending_table (l : List Instr) : (s.withPending l).table = s.table := rfl
@[simp] theorem State.withPending_arbiter (l : List Instr) : (s.withPending l).arbiter = s.arbiter := rfl
@[simp] theorem State.withPending_sequencer (l : List Instr) : (s.withPending l).sequencer = s.sequencer := rfl
@[simp] theorem State.withPending_refresh (l : List Instr) : (s.withPending l).refresh = s.refresh := rfl
@[simp] theorem State.withPending_clear (l : List Instr) : (s.withPending l).clear = s.clear := rfl
@[simp] theorem State.withPending_scrub (l : List Instr) : (s.withPending l).scrub = s.scrub := rfl
@[simp] theorem State.withPending_log (l : List Instr) : (s.withPending l).log = s.log := rfl
@[simp] theorem State.withPending_control (l : List Instr) : (s.withPending l).control = s.control := rfl
@[simp] theorem State.withPending_array (l : List Instr) : (s.withPending l).array = s.array := rfl
@[simp] theorem State.withPending_freeDraws (l : List Instr) : (s.withPending l).freeDraws = s.freeDraws := rfl
@[simp] theorem State.withPending_pending (l : List Instr) : (s.withPending l).pending = l := rfl

@[simp] theorem State.setPort_pins (p : Port) (r : PortRecord) : (s.setPort p r).pins = s.pins := rfl
@[simp] theorem State.setPort_ports (p : Port) (r : PortRecord) : (s.setPort p r).ports = s.ports.set p r := rfl
@[simp] theorem State.setPort_pageMap (p : Port) (r : PortRecord) : (s.setPort p r).pageMap = s.pageMap := rfl
@[simp] theorem State.setPort_table (p : Port) (r : PortRecord) : (s.setPort p r).table = s.table := rfl
@[simp] theorem State.setPort_arbiter (p : Port) (r : PortRecord) : (s.setPort p r).arbiter = s.arbiter := rfl
@[simp] theorem State.setPort_sequencer (p : Port) (r : PortRecord) : (s.setPort p r).sequencer = s.sequencer := rfl
@[simp] theorem State.setPort_refresh (p : Port) (r : PortRecord) : (s.setPort p r).refresh = s.refresh := rfl
@[simp] theorem State.setPort_clear (p : Port) (r : PortRecord) : (s.setPort p r).clear = s.clear := rfl
@[simp] theorem State.setPort_scrub (p : Port) (r : PortRecord) : (s.setPort p r).scrub = s.scrub := rfl
@[simp] theorem State.setPort_log (p : Port) (r : PortRecord) : (s.setPort p r).log = s.log := rfl
@[simp] theorem State.setPort_control (p : Port) (r : PortRecord) : (s.setPort p r).control = s.control := rfl
@[simp] theorem State.setPort_array (p : Port) (r : PortRecord) : (s.setPort p r).array = s.array := rfl
@[simp] theorem State.setPort_freeDraws (p : Port) (r : PortRecord) : (s.setPort p r).freeDraws = s.freeDraws := rfl
@[simp] theorem State.setPort_pending (p : Port) (r : PortRecord) : (s.setPort p r).pending = s.pending := rfl

@[simp] theorem State.setEntries_pins (l : List PageEntry) : (s.setEntries l).pins = s.pins := rfl
@[simp] theorem State.setEntries_ports (l : List PageEntry) : (s.setEntries l).ports = s.ports := rfl
@[simp] theorem State.setEntries_pageMap (l : List PageEntry) : (s.setEntries l).pageMap = { s.pageMap with entries := l } := rfl
@[simp] theorem State.setEntries_table (l : List PageEntry) : (s.setEntries l).table = s.table := rfl
@[simp] theorem State.setEntries_arbiter (l : List PageEntry) : (s.setEntries l).arbiter = s.arbiter := rfl
@[simp] theorem State.setEntries_sequencer (l : List PageEntry) : (s.setEntries l).sequencer = s.sequencer := rfl
@[simp] theorem State.setEntries_refresh (l : List PageEntry) : (s.setEntries l).refresh = s.refresh := rfl
@[simp] theorem State.setEntries_clear (l : List PageEntry) : (s.setEntries l).clear = s.clear := rfl
@[simp] theorem State.setEntries_scrub (l : List PageEntry) : (s.setEntries l).scrub = s.scrub := rfl
@[simp] theorem State.setEntries_log (l : List PageEntry) : (s.setEntries l).log = s.log := rfl
@[simp] theorem State.setEntries_control (l : List PageEntry) : (s.setEntries l).control = s.control := rfl
@[simp] theorem State.setEntries_array (l : List PageEntry) : (s.setEntries l).array = s.array := rfl
@[simp] theorem State.setEntries_freeDraws (l : List PageEntry) : (s.setEntries l).freeDraws = s.freeDraws := rfl
@[simp] theorem State.setEntries_pending (l : List PageEntry) : (s.setEntries l).pending = s.pending := rfl

@[simp] theorem State.setOffers_pins (l : List OfferEntry) : (s.setOffers l).pins = s.pins := rfl
@[simp] theorem State.setOffers_ports (l : List OfferEntry) : (s.setOffers l).ports = s.ports := rfl
@[simp] theorem State.setOffers_pageMap (l : List OfferEntry) : (s.setOffers l).pageMap = { s.pageMap with offers := l } := rfl
@[simp] theorem State.setOffers_table (l : List OfferEntry) : (s.setOffers l).table = s.table := rfl
@[simp] theorem State.setOffers_arbiter (l : List OfferEntry) : (s.setOffers l).arbiter = s.arbiter := rfl
@[simp] theorem State.setOffers_sequencer (l : List OfferEntry) : (s.setOffers l).sequencer = s.sequencer := rfl
@[simp] theorem State.setOffers_refresh (l : List OfferEntry) : (s.setOffers l).refresh = s.refresh := rfl
@[simp] theorem State.setOffers_clear (l : List OfferEntry) : (s.setOffers l).clear = s.clear := rfl
@[simp] theorem State.setOffers_scrub (l : List OfferEntry) : (s.setOffers l).scrub = s.scrub := rfl
@[simp] theorem State.setOffers_log (l : List OfferEntry) : (s.setOffers l).log = s.log := rfl
@[simp] theorem State.setOffers_control (l : List OfferEntry) : (s.setOffers l).control = s.control := rfl
@[simp] theorem State.setOffers_array (l : List OfferEntry) : (s.setOffers l).array = s.array := rfl
@[simp] theorem State.setOffers_freeDraws (l : List OfferEntry) : (s.setOffers l).freeDraws = s.freeDraws := rfl
@[simp] theorem State.setOffers_pending (l : List OfferEntry) : (s.setOffers l).pending = s.pending := rfl

@[simp] theorem State.ask_pins (l : List NoticeRequest) : (s.ask l).pins = s.pins := rfl
@[simp] theorem State.ask_ports (l : List NoticeRequest) : (s.ask l).ports = s.ports := rfl
@[simp] theorem State.ask_pageMap (l : List NoticeRequest) : (s.ask l).pageMap = s.pageMap := rfl
@[simp] theorem State.ask_table (l : List NoticeRequest) : (s.ask l).table = s.table := rfl
@[simp] theorem State.ask_arbiter (l : List NoticeRequest) : (s.ask l).arbiter = s.arbiter := rfl
@[simp] theorem State.ask_sequencer (l : List NoticeRequest) : (s.ask l).sequencer = s.sequencer := rfl
@[simp] theorem State.ask_refresh (l : List NoticeRequest) : (s.ask l).refresh = s.refresh := rfl
@[simp] theorem State.ask_clear (l : List NoticeRequest) : (s.ask l).clear = s.clear := rfl
@[simp] theorem State.ask_scrub (l : List NoticeRequest) : (s.ask l).scrub = s.scrub := rfl
@[simp] theorem State.ask_log (l : List NoticeRequest) : (s.ask l).log = { s.log with asked := s.log.asked ++ l } := rfl
@[simp] theorem State.ask_control (l : List NoticeRequest) : (s.ask l).control = s.control := rfl
@[simp] theorem State.ask_array (l : List NoticeRequest) : (s.ask l).array = s.array := rfl
@[simp] theorem State.ask_freeDraws (l : List NoticeRequest) : (s.ask l).freeDraws = s.freeDraws := rfl
@[simp] theorem State.ask_pending (l : List NoticeRequest) : (s.ask l).pending = s.pending := rfl

@[simp] theorem State.setEntry_pins (n : Nat) (e : PageEntry) : (s.setEntry n e).pins = s.pins := rfl
@[simp] theorem State.setEntry_ports (n : Nat) (e : PageEntry) : (s.setEntry n e).ports = s.ports := rfl
@[simp] theorem State.setEntry_pageMap (n : Nat) (e : PageEntry) : (s.setEntry n e).pageMap = { s.pageMap with entries := s.pageMap.entries.set n e } := rfl
@[simp] theorem State.setEntry_table (n : Nat) (e : PageEntry) : (s.setEntry n e).table = s.table := rfl
@[simp] theorem State.setEntry_arbiter (n : Nat) (e : PageEntry) : (s.setEntry n e).arbiter = s.arbiter := rfl
@[simp] theorem State.setEntry_sequencer (n : Nat) (e : PageEntry) : (s.setEntry n e).sequencer = s.sequencer := rfl
@[simp] theorem State.setEntry_refresh (n : Nat) (e : PageEntry) : (s.setEntry n e).refresh = s.refresh := rfl
@[simp] theorem State.setEntry_clear (n : Nat) (e : PageEntry) : (s.setEntry n e).clear = s.clear := rfl
@[simp] theorem State.setEntry_scrub (n : Nat) (e : PageEntry) : (s.setEntry n e).scrub = s.scrub := rfl
@[simp] theorem State.setEntry_log (n : Nat) (e : PageEntry) : (s.setEntry n e).log = s.log := rfl
@[simp] theorem State.setEntry_control (n : Nat) (e : PageEntry) : (s.setEntry n e).control = s.control := rfl
@[simp] theorem State.setEntry_array (n : Nat) (e : PageEntry) : (s.setEntry n e).array = s.array := rfl
@[simp] theorem State.setEntry_freeDraws (n : Nat) (e : PageEntry) : (s.setEntry n e).freeDraws = s.freeDraws := rfl
@[simp] theorem State.setEntry_pending (n : Nat) (e : PageEntry) : (s.setEntry n e).pending = s.pending := rfl

@[simp] theorem State.removeOffer_pins (n : Nat) : (s.removeOffer n).pins = s.pins := rfl
@[simp] theorem State.removeOffer_ports (n : Nat) : (s.removeOffer n).ports = s.ports := rfl
@[simp] theorem State.removeOffer_pageMap (n : Nat) : (s.removeOffer n).pageMap = { s.pageMap with offers := s.pageMap.offers.filter fun o => decide (o.page ≠ n) } := rfl
@[simp] theorem State.removeOffer_table (n : Nat) : (s.removeOffer n).table = s.table := rfl
@[simp] theorem State.removeOffer_arbiter (n : Nat) : (s.removeOffer n).arbiter = s.arbiter := rfl
@[simp] theorem State.removeOffer_sequencer (n : Nat) : (s.removeOffer n).sequencer = s.sequencer := rfl
@[simp] theorem State.removeOffer_refresh (n : Nat) : (s.removeOffer n).refresh = s.refresh := rfl
@[simp] theorem State.removeOffer_clear (n : Nat) : (s.removeOffer n).clear = s.clear := rfl
@[simp] theorem State.removeOffer_scrub (n : Nat) : (s.removeOffer n).scrub = s.scrub := rfl
@[simp] theorem State.removeOffer_log (n : Nat) : (s.removeOffer n).log = s.log := rfl
@[simp] theorem State.removeOffer_control (n : Nat) : (s.removeOffer n).control = s.control := rfl
@[simp] theorem State.removeOffer_array (n : Nat) : (s.removeOffer n).array = s.array := rfl
@[simp] theorem State.removeOffer_freeDraws (n : Nat) : (s.removeOffer n).freeDraws = s.freeDraws := rfl
@[simp] theorem State.removeOffer_pending (n : Nat) : (s.removeOffer n).pending = s.pending := rfl

@[simp] theorem State.setReservations_pins (l : List Reservation) : (s.setReservations l).pins = s.pins := rfl
@[simp] theorem State.setReservations_ports (l : List Reservation) : (s.setReservations l).ports = s.ports := rfl
@[simp] theorem State.setReservations_pageMap (l : List Reservation) : (s.setReservations l).pageMap = s.pageMap := rfl
@[simp] theorem State.setReservations_table (l : List Reservation) : (s.setReservations l).table = { entries := l, parking := .ofFn fun p => parkingMark l p (s.port p).current } := rfl
@[simp] theorem State.setReservations_arbiter (l : List Reservation) : (s.setReservations l).arbiter = s.arbiter := rfl
@[simp] theorem State.setReservations_sequencer (l : List Reservation) : (s.setReservations l).sequencer = s.sequencer := rfl
@[simp] theorem State.setReservations_refresh (l : List Reservation) : (s.setReservations l).refresh = s.refresh := rfl
@[simp] theorem State.setReservations_clear (l : List Reservation) : (s.setReservations l).clear = s.clear := rfl
@[simp] theorem State.setReservations_scrub (l : List Reservation) : (s.setReservations l).scrub = s.scrub := rfl
@[simp] theorem State.setReservations_log (l : List Reservation) : (s.setReservations l).log = s.log := rfl
@[simp] theorem State.setReservations_control (l : List Reservation) : (s.setReservations l).control = s.control := rfl
@[simp] theorem State.setReservations_array (l : List Reservation) : (s.setReservations l).array = s.array := rfl
@[simp] theorem State.setReservations_freeDraws (l : List Reservation) : (s.setReservations l).freeDraws = s.freeDraws := rfl
@[simp] theorem State.setReservations_pending (l : List Reservation) : (s.setReservations l).pending = s.pending := rfl

@[simp] theorem State.port_setPort_same (p : Port) (r : PortRecord) : (s.setPort p r).port p = r :=
  PerPort.get_set_same _ _ _

@[simp] theorem State.port_setPort_of_ne {p q : Port} (r : PortRecord) (h : q ≠ p) : (s.setPort p r).port q = s.port q :=
  PerPort.get_set_of_ne _ _ h

/-- The record of a port depends on the ports alone. -/
theorem State.port_congr {s t : State} (h : s.ports = t.ports) (p : Port) : s.port p = t.port p :=
  congrArg (fun v => PerPort.get v p) h

/-- The entry of a page depends on the page entries alone. -/
theorem State.entry_congr {s t : State} (h : s.pageMap.entries = t.pageMap.entries) (n : Nat) : s.entry n = t.entry n :=
  congrArg (fun l => l.getD n .afterColdReset) h

@[simp] theorem State.entry_setEntry_same (n : Nat) (e : PageEntry) (h : n < s.pageMap.entries.length) :
    (s.setEntry n e).entry n = e := by
  simp [State.entry, h]

@[simp] theorem State.entry_setEntry_of_ne {n k : Nat} (e : PageEntry) (h : k ≠ n) : (s.setEntry n e).entry k = s.entry k := by
  simp [State.entry, Ne.symm h]

end Sys2Proof.Machine
end

