-- ==== Sys2Proof/Laws/Ops.lean ====
section
/-! SUPPORT. What the shared operations do: the blocks each leaves alone, and what it puts in the others. -/
namespace Sys2Proof.Machine

variable (s : State)

/-! ### Blocks an operation leaves alone -/

@[simp] theorem State.evaluateParking_pins (p : Port) : (s.evaluateParking p).pins = s.pins := rfl
@[simp] theorem State.evaluateParking_ports (p : Port) : (s.evaluateParking p).ports = s.ports := rfl
@[simp] theorem State.evaluateParking_pageMap (p : Port) : (s.evaluateParking p).pageMap = s.pageMap := rfl
@[simp] theorem State.evaluateParking_arbiter (p : Port) : (s.evaluateParking p).arbiter = s.arbiter := rfl
@[simp] theorem State.evaluateParking_sequencer (p : Port) : (s.evaluateParking p).sequencer = s.sequencer := rfl
@[simp] theorem State.evaluateParking_refresh (p : Port) : (s.evaluateParking p).refresh = s.refresh := rfl
@[simp] theorem State.evaluateParking_clear (p : Port) : (s.evaluateParking p).clear = s.clear := rfl
@[simp] theorem State.evaluateParking_scrub (p : Port) : (s.evaluateParking p).scrub = s.scrub := rfl
@[simp] theorem State.evaluateParking_log (p : Port) : (s.evaluateParking p).log = s.log := rfl
@[simp] theorem State.evaluateParking_control (p : Port) : (s.evaluateParking p).control = s.control := rfl
@[simp] theorem State.evaluateParking_array (p : Port) : (s.evaluateParking p).array = s.array := rfl
@[simp] theorem State.evaluateParking_freeDraws (p : Port) : (s.evaluateParking p).freeDraws = s.freeDraws := rfl
@[simp] theorem State.evaluateParking_pending (p : Port) : (s.evaluateParking p).pending = s.pending := rfl

@[simp] theorem State.dropReservations_pins (g : Reservation → Bool) : (s.dropReservations g).pins = s.pins := rfl
@[simp] theorem State.dropReservations_ports (g : Reservation → Bool) : (s.dropReservations g).ports = s.ports := rfl
@[simp] theorem State.dropReservations_pageMap (g : Reservation → Bool) : (s.dropReservations g).pageMap = s.pageMap := rfl
@[simp] theorem State.dropReservations_arbiter (g : Reservation → Bool) : (s.dropReservations g).arbiter = s.arbiter := rfl
@[simp] theorem State.dropReservations_sequencer (g : Reservation → Bool) : (s.dropReservations g).sequencer = s.sequencer := rfl
@[simp] theorem State.dropReservations_refresh (g : Reservation → Bool) : (s.dropReservations g).refresh = s.refresh := rfl
@[simp] theorem State.dropReservations_clear (g : Reservation → Bool) : (s.dropReservations g).clear = s.clear := rfl
@[simp] theorem State.dropReservations_scrub (g : Reservation → Bool) : (s.dropReservations g).scrub = s.scrub := rfl
@[simp] theorem State.dropReservations_log (g : Reservation → Bool) : (s.dropReservations g).log = s.log := rfl
@[simp] theorem State.dropReservations_control (g : Reservation → Bool) : (s.dropReservations g).control = s.control := rfl
@[simp] theorem State.dropReservations_array (g : Reservation → Bool) : (s.dropReservations g).array = s.array := rfl
@[simp] theorem State.dropReservations_freeDraws (g : Reservation → Bool) : (s.dropReservations g).freeDraws = s.freeDraws := rfl
@[simp] theorem State.dropReservations_pending (g : Reservation → Bool) : (s.dropReservations g).pending = s.pending := rfl

@[simp] theorem State.serveNext_pins (p : Port) : (s.serveNext p).pins = s.pins := rfl
@[simp] theorem State.serveNext_pageMap (p : Port) : (s.serveNext p).pageMap = s.pageMap := rfl
@[simp] theorem State.serveNext_arbiter (p : Port) : (s.serveNext p).arbiter = s.arbiter := rfl
@[simp] theorem State.serveNext_sequencer (p : Port) : (s.serveNext p).sequencer = s.sequencer := rfl
@[simp] theorem State.serveNext_refresh (p : Port) : (s.serveNext p).refresh = s.refresh := rfl
@[simp] theorem State.serveNext_clear (p : Port) : (s.serveNext p).clear = s.clear := rfl
@[simp] theorem State.serveNext_scrub (p : Port) : (s.serveNext p).scrub = s.scrub := rfl
@[simp] theorem State.serveNext_log (p : Port) : (s.serveNext p).log = s.log := rfl
@[simp] theorem State.serveNext_control (p : Port) : (s.serveNext p).control = s.control := rfl
@[simp] theorem State.serveNext_array (p : Port) : (s.serveNext p).array = s.array := rfl
@[simp] theorem State.serveNext_freeDraws (p : Port) : (s.serveNext p).freeDraws = s.freeDraws := rfl
@[simp] theorem State.serveNext_pending (p : Port) : (s.serveNext p).pending = s.pending := rfl

@[simp] theorem State.answer_pins (p : Port) (r : Response) : (s.answer p r).pins = s.pins := rfl
@[simp] theorem State.answer_pageMap (p : Port) (r : Response) : (s.answer p r).pageMap = s.pageMap := rfl
@[simp] theorem State.answer_arbiter (p : Port) (r : Response) : (s.answer p r).arbiter = s.arbiter := rfl
@[simp] theorem State.answer_sequencer (p : Port) (r : Response) : (s.answer p r).sequencer = s.sequencer := rfl
@[simp] theorem State.answer_refresh (p : Port) (r : Response) : (s.answer p r).refresh = s.refresh := rfl
@[simp] theorem State.answer_clear (p : Port) (r : Response) : (s.answer p r).clear = s.clear := rfl
@[simp] theorem State.answer_scrub (p : Port) (r : Response) : (s.answer p r).scrub = s.scrub := rfl
@[simp] theorem State.answer_log (p : Port) (r : Response) : (s.answer p r).log = s.log := rfl
@[simp] theorem State.answer_control (p : Port) (r : Response) : (s.answer p r).control = s.control := rfl
@[simp] theorem State.answer_array (p : Port) (r : Response) : (s.answer p r).array = s.array := rfl
@[simp] theorem State.answer_freeDraws (p : Port) (r : Response) : (s.answer p r).freeDraws = s.freeDraws := rfl
@[simp] theorem State.answer_pending (p : Port) (r : Response) : (s.answer p r).pending = s.pending := rfl

@[simp] theorem State.answerStatus_pins (p : Port) (m : Request) (st : Status) : (s.answerStatus p m st).pins = s.pins := rfl
@[simp] theorem State.answerStatus_pageMap (p : Port) (m : Request) (st : Status) : (s.answerStatus p m st).pageMap = s.pageMap := rfl
@[simp] theorem State.answerStatus_arbiter (p : Port) (m : Request) (st : Status) : (s.answerStatus p m st).arbiter = s.arbiter := rfl
@[simp] theorem State.answerStatus_sequencer (p : Port) (m : Request) (st : Status) : (s.answerStatus p m st).sequencer = s.sequencer := rfl
@[simp] theorem State.answerStatus_refresh (p : Port) (m : Request) (st : Status) : (s.answerStatus p m st).refresh = s.refresh := rfl
@[simp] theorem State.answerStatus_clear (p : Port) (m : Request) (st : Status) : (s.answerStatus p m st).clear = s.clear := rfl
@[simp] theorem State.answerStatus_scrub (p : Port) (m : Request) (st : Status) : (s.answerStatus p m st).scrub = s.scrub := rfl
@[simp] theorem State.answerStatus_log (p : Port) (m : Request) (st : Status) : (s.answerStatus p m st).log = s.log := rfl
@[simp] theorem State.answerStatus_control (p : Port) (m : Request) (st : Status) : (s.answerStatus p m st).control = s.control := rfl
@[simp] theorem State.answerStatus_array (p : Port) (m : Request) (st : Status) : (s.answerStatus p m st).array = s.array := rfl
@[simp] theorem State.answerStatus_freeDraws (p : Port) (m : Request) (st : Status) : (s.answerStatus p m st).freeDraws = s.freeDraws := rfl
@[simp] theorem State.answerStatus_pending (p : Port) (m : Request) (st : Status) : (s.answerStatus p m st).pending = s.pending := rfl

@[simp] theorem State.backToHeld_pins (n : Nat) : (s.backToHeld n).pins = s.pins := rfl
@[simp] theorem State.backToHeld_ports (n : Nat) : (s.backToHeld n).ports = s.ports := rfl
@[simp] theorem State.backToHeld_table (n : Nat) : (s.backToHeld n).table = s.table := rfl
@[simp] theorem State.backToHeld_arbiter (n : Nat) : (s.backToHeld n).arbiter = s.arbiter := rfl
@[simp] theorem State.backToHeld_sequencer (n : Nat) : (s.backToHeld n).sequencer = s.sequencer := rfl
@[simp] theorem State.backToHeld_refresh (n : Nat) : (s.backToHeld n).refresh = s.refresh := rfl
@[simp] theorem State.backToHeld_clear (n : Nat) : (s.backToHeld n).clear = s.clear := rfl
@[simp] theorem State.backToHeld_scrub (n : Nat) : (s.backToHeld n).scrub = s.scrub := rfl
@[simp] theorem State.backToHeld_log (n : Nat) : (s.backToHeld n).log = s.log := rfl
@[simp] theorem State.backToHeld_control (n : Nat) : (s.backToHeld n).control = s.control := rfl
@[simp] theorem State.backToHeld_array (n : Nat) : (s.backToHeld n).array = s.array := rfl
@[simp] theorem State.backToHeld_freeDraws (n : Nat) : (s.backToHeld n).freeDraws = s.freeDraws := rfl
@[simp] theorem State.backToHeld_pending (n : Nat) : (s.backToHeld n).pending = s.pending := rfl

@[simp] theorem State.toGranted_pins (p : Port) (m : Request) : (s.toGranted p m).pins = s.pins := rfl
@[simp] theorem State.toGranted_pageMap (p : Port) (m : Request) : (s.toGranted p m).pageMap = s.pageMap := rfl
@[simp] theorem State.toGranted_table (p : Port) (m : Request) : (s.toGranted p m).table = s.table := rfl
@[simp] theorem State.toGranted_sequencer (p : Port) (m : Request) : (s.toGranted p m).sequencer = s.sequencer := rfl
@[simp] theorem State.toGranted_refresh (p : Port) (m : Request) : (s.toGranted p m).refresh = s.refresh := rfl
@[simp] theorem State.toGranted_clear (p : Port) (m : Request) : (s.toGranted p m).clear = s.clear := rfl
@[simp] theorem State.toGranted_scrub (p : Port) (m : Request) : (s.toGranted p m).scrub = s.scrub := rfl
@[simp] theorem State.toGranted_log (p : Port) (m : Request) : (s.toGranted p m).log = s.log := rfl
@[simp] theorem State.toGranted_control (p : Port) (m : Request) : (s.toGranted p m).control = s.control := rfl
@[simp] theorem State.toGranted_array (p : Port) (m : Request) : (s.toGranted p m).array = s.array := rfl
@[simp] theorem State.toGranted_freeDraws (p : Port) (m : Request) : (s.toGranted p m).freeDraws = s.freeDraws := rfl
@[simp] theorem State.toGranted_pending (p : Port) (m : Request) : (s.toGranted p m).pending = s.pending := rfl

@[simp] theorem State.beginFor_pins (p : Port) (m : Request) (k : RequestKind) : (s.beginFor p m k).pins = s.pins := rfl
@[simp] theorem State.beginFor_ports (p : Port) (m : Request) (k : RequestKind) : (s.beginFor p m k).ports = s.ports := rfl
@[simp] theorem State.beginFor_pageMap (p : Port) (m : Request) (k : RequestKind) : (s.beginFor p m k).pageMap = s.pageMap := rfl
@[simp] theorem State.beginFor_table (p : Port) (m : Request) (k : RequestKind) : (s.beginFor p m k).table = s.table := rfl
@[simp] theorem State.beginFor_arbiter (p : Port) (m : Request) (k : RequestKind) : (s.beginFor p m k).arbiter = s.arbiter := rfl
@[simp] theorem State.beginFor_refresh (p : Port) (m : Request) (k : RequestKind) : (s.beginFor p m k).refresh = s.refresh := rfl
@[simp] theorem State.beginFor_clear (p : Port) (m : Request) (k : RequestKind) : (s.beginFor p m k).clear = s.clear := rfl
@[simp] theorem State.beginFor_scrub (p : Port) (m : Request) (k : RequestKind) : (s.beginFor p m k).scrub = s.scrub := rfl
@[simp] theorem State.beginFor_log (p : Port) (m : Request) (k : RequestKind) : (s.beginFor p m k).log = s.log := rfl
@[simp] theorem State.beginFor_control (p : Port) (m : Request) (k : RequestKind) : (s.beginFor p m k).control = s.control := rfl
@[simp] theorem State.beginFor_array (p : Port) (m : Request) (k : RequestKind) : (s.beginFor p m k).array = s.array := rfl
@[simp] theorem State.beginFor_freeDraws (p : Port) (m : Request) (k : RequestKind) : (s.beginFor p m k).freeDraws = s.freeDraws := rfl
@[simp] theorem State.beginFor_pending (p : Port) (m : Request) (k : RequestKind) : (s.beginFor p m k).pending = s.pending := rfl

@[simp] theorem State.makeOffer_pins (n : Nat) (p q : Port) : (s.makeOffer n p q).pins = s.pins := rfl
@[simp] theorem State.makeOffer_ports (n : Nat) (p q : Port) : (s.makeOffer n p q).ports = s.ports := rfl
@[simp] theorem State.makeOffer_table (n : Nat) (p q : Port) : (s.makeOffer n p q).table = s.table := rfl
@[simp] theorem State.makeOffer_arbiter (n : Nat) (p q : Port) : (s.makeOffer n p q).arbiter = s.arbiter := rfl
@[simp] theorem State.makeOffer_sequencer (n : Nat) (p q : Port) : (s.makeOffer n p q).sequencer = s.sequencer := rfl
@[simp] theorem State.makeOffer_refresh (n : Nat) (p q : Port) : (s.makeOffer n p q).refresh = s.refresh := rfl
@[simp] theorem State.makeOffer_clear (n : Nat) (p q : Port) : (s.makeOffer n p q).clear = s.clear := rfl
@[simp] theorem State.makeOffer_scrub (n : Nat) (p q : Port) : (s.makeOffer n p q).scrub = s.scrub := rfl
@[simp] theorem State.makeOffer_control (n : Nat) (p q : Port) : (s.makeOffer n p q).control = s.control := rfl
@[simp] theorem State.makeOffer_array (n : Nat) (p q : Port) : (s.makeOffer n p q).array = s.array := rfl
@[simp] theorem State.makeOffer_freeDraws (n : Nat) (p q : Port) : (s.makeOffer n p q).freeDraws = s.freeDraws := rfl
@[simp] theorem State.makeOffer_pending (n : Nat) (p q : Port) : (s.makeOffer n p q).pending = s.pending := rfl

@[simp] theorem State.takeOver_pins (n : Nat) (p : Port) (o : OfferEntry) : (s.takeOver n p o).pins = s.pins := rfl
@[simp] theorem State.takeOver_ports (n : Nat) (p : Port) (o : OfferEntry) : (s.takeOver n p o).ports = s.ports := rfl
@[simp] theorem State.takeOver_arbiter (n : Nat) (p : Port) (o : OfferEntry) : (s.takeOver n p o).arbiter = s.arbiter := rfl
@[simp] theorem State.takeOver_sequencer (n : Nat) (p : Port) (o : OfferEntry) : (s.takeOver n p o).sequencer = s.sequencer := rfl
@[simp] theorem State.takeOver_refresh (n : Nat) (p : Port) (o : OfferEntry) : (s.takeOver n p o).refresh = s.refresh := rfl
@[simp] theorem State.takeOver_clear (n : Nat) (p : Port) (o : OfferEntry) : (s.takeOver n p o).clear = s.clear := rfl
@[simp] theorem State.takeOver_scrub (n : Nat) (p : Port) (o : OfferEntry) : (s.takeOver n p o).scrub = s.scrub := rfl
@[simp] theorem State.takeOver_control (n : Nat) (p : Port) (o : OfferEntry) : (s.takeOver n p o).control = s.control := rfl
@[simp] theorem State.takeOver_array (n : Nat) (p : Port) (o : OfferEntry) : (s.takeOver n p o).array = s.array := rfl
@[simp] theorem State.takeOver_freeDraws (n : Nat) (p : Port) (o : OfferEntry) : (s.takeOver n p o).freeDraws = s.freeDraws := rfl
@[simp] theorem State.takeOver_pending (n : Nat) (p : Port) (o : OfferEntry) : (s.takeOver n p o).pending = s.pending := rfl

@[simp] theorem State.endReading_pins (o : Operation) (a : Nat) (f : StoredWord) : (s.endReading o a f).pins = s.pins := rfl
@[simp] theorem State.endReading_ports (o : Operation) (a : Nat) (f : StoredWord) : (s.endReading o a f).ports = s.ports := rfl
@[simp] theorem State.endReading_pageMap (o : Operation) (a : Nat) (f : StoredWord) : (s.endReading o a f).pageMap = s.pageMap := rfl
@[simp] theorem State.endReading_table (o : Operation) (a : Nat) (f : StoredWord) : (s.endReading o a f).table = s.table := rfl
@[simp] theorem State.endReading_arbiter (o : Operation) (a : Nat) (f : StoredWord) : (s.endReading o a f).arbiter = s.arbiter := rfl
@[simp] theorem State.endReading_refresh (o : Operation) (a : Nat) (f : StoredWord) : (s.endReading o a f).refresh = s.refresh := rfl
@[simp] theorem State.endReading_clear (o : Operation) (a : Nat) (f : StoredWord) : (s.endReading o a f).clear = s.clear := rfl
@[simp] theorem State.endReading_scrub (o : Operation) (a : Nat) (f : StoredWord) : (s.endReading o a f).scrub = s.scrub := rfl
@[simp] theorem State.endReading_log (o : Operation) (a : Nat) (f : StoredWord) : (s.endReading o a f).log = s.log := rfl
@[simp] theorem State.endReading_control (o : Operation) (a : Nat) (f : StoredWord) : (s.endReading o a f).control = s.control := rfl
@[simp] theorem State.endReading_freeDraws (o : Operation) (a : Nat) (f : StoredWord) : (s.endReading o a f).freeDraws = s.freeDraws := rfl
@[simp] theorem State.endReading_pending (o : Operation) (a : Nat) (f : StoredWord) : (s.endReading o a f).pending = s.pending := rfl

@[simp] theorem State.enterRun_pins (p : Port) : (s.enterRun p).pins = s.pins := rfl
@[simp] theorem State.enterRun_ports (p : Port) : (s.enterRun p).ports = s.ports := rfl
@[simp] theorem State.enterRun_pageMap (p : Port) : (s.enterRun p).pageMap = s.pageMap := rfl
@[simp] theorem State.enterRun_table (p : Port) : (s.enterRun p).table = s.table := rfl
@[simp] theorem State.enterRun_arbiter (p : Port) : (s.enterRun p).arbiter = s.arbiter := rfl
@[simp] theorem State.enterRun_sequencer (p : Port) : (s.enterRun p).sequencer = s.sequencer := rfl
@[simp] theorem State.enterRun_refresh (p : Port) : (s.enterRun p).refresh = s.refresh := rfl
@[simp] theorem State.enterRun_clear (p : Port) : (s.enterRun p).clear = s.clear := rfl
@[simp] theorem State.enterRun_array (p : Port) : (s.enterRun p).array = s.array := rfl
@[simp] theorem State.enterRun_freeDraws (p : Port) : (s.enterRun p).freeDraws = s.freeDraws := rfl
@[simp] theorem State.enterRun_pending (p : Port) : (s.enterRun p).pending = s.pending := rfl

@[simp] theorem State.landWrite_pins (o : Operation) : (s.landWrite o).pins = s.pins := by
  unfold State.landWrite; split <;> rfl
@[simp] theorem State.landWrite_ports (o : Operation) : (s.landWrite o).ports = s.ports := by
  unfold State.landWrite; split <;> rfl
@[simp] theorem State.landWrite_pageMap (o : Operation) : (s.landWrite o).pageMap = s.pageMap := by
  unfold State.landWrite; split <;> rfl
@[simp] theorem State.landWrite_table (o : Operation) : (s.landWrite o).table = s.table := by
  unfold State.landWrite; split <;> rfl
@[simp] theorem State.landWrite_arbiter (o : Operation) : (s.landWrite o).arbiter = s.arbiter := by
  unfold State.landWrite; split <;> rfl
@[simp] theorem State.landWrite_sequencer (o : Operation) : (s.landWrite o).sequencer = s.sequencer := by
  unfold State.landWrite; split <;> rfl
@[simp] theorem State.landWrite_refresh (o : Operation) : (s.landWrite o).refresh = s.refresh := by
  unfold State.landWrite; split <;> rfl
@[simp] theorem State.landWrite_clear (o : Operation) : (s.landWrite o).clear = s.clear := by
  unfold State.landWrite; split <;> rfl
@[simp] theorem State.landWrite_scrub (o : Operation) : (s.landWrite o).scrub = s.scrub := by
  unfold State.landWrite; split <;> rfl
@[simp] theorem State.landWrite_log (o : Operation) : (s.landWrite o).log = s.log := by
  unfold State.landWrite; split <;> rfl
@[simp] theorem State.landWrite_control (o : Operation) : (s.landWrite o).control = s.control := by
  unfold State.landWrite; split <;> rfl
@[simp] theorem State.landWrite_freeDraws (o : Operation) : (s.landWrite o).freeDraws = s.freeDraws := by
  unfold State.landWrite; split <;> rfl
@[simp] theorem State.landWrite_pending (o : Operation) : (s.landWrite o).pending = s.pending := by
  unfold State.landWrite; split <;> rfl

@[simp] theorem State.grantRight_pins (n : Nat) (q : Port) (w : Bool) : (s.grantRight n q w).pins = s.pins := by
  simp only [State.grantRight]; split <;> rfl
@[simp] theorem State.grantRight_ports (n : Nat) (q : Port) (w : Bool) : (s.grantRight n q w).ports = s.ports := by
  simp only [State.grantRight]; split <;> rfl
@[simp] theorem State.grantRight_arbiter (n : Nat) (q : Port) (w : Bool) : (s.grantRight n q w).arbiter = s.arbiter := by
  simp only [State.grantRight]; split <;> rfl
@[simp] theorem State.grantRight_sequencer (n : Nat) (q : Port) (w : Bool) : (s.grantRight n q w).sequencer = s.sequencer := by
  simp only [State.grantRight]; split <;> rfl
@[simp] theorem State.grantRight_refresh (n : Nat) (q : Port) (w : Bool) : (s.grantRight n q w).refresh = s.refresh := by
  simp only [State.grantRight]; split <;> rfl
@[simp] theorem State.grantRight_clear (n : Nat) (q : Port) (w : Bool) : (s.grantRight n q w).clear = s.clear := by
  simp only [State.grantRight]; split <;> rfl
@[simp] theorem State.grantRight_scrub (n : Nat) (q : Port) (w : Bool) : (s.grantRight n q w).scrub = s.scrub := by
  simp only [State.grantRight]; split <;> rfl
@[simp] theorem State.grantRight_log (n : Nat) (q : Port) (w : Bool) : (s.grantRight n q w).log = s.log := by
  simp only [State.grantRight]; split <;> rfl
@[simp] theorem State.grantRight_control (n : Nat) (q : Port) (w : Bool) : (s.grantRight n q w).control = s.control := by
  simp only [State.grantRight]; split <;> rfl
@[simp] theorem State.grantRight_array (n : Nat) (q : Port) (w : Bool) : (s.grantRight n q w).array = s.array := by
  simp only [State.grantRight]; split <;> rfl
@[simp] theorem State.grantRight_freeDraws (n : Nat) (q : Port) (w : Bool) : (s.grantRight n q w).freeDraws = s.freeDraws := by
  simp only [State.grantRight]; split <;> rfl
@[simp] theorem State.grantRight_pending (n : Nat) (q : Port) (w : Bool) : (s.grantRight n q w).pending = s.pending := by
  simp only [State.grantRight]; split <;> rfl

@[simp] theorem State.giveUp_pins (n : Nat) (c : Bool) : (s.giveUp n c).pins = s.pins := by
  simp only [State.giveUp]; split <;> rfl
@[simp] theorem State.giveUp_ports (n : Nat) (c : Bool) : (s.giveUp n c).ports = s.ports := by
  simp only [State.giveUp]; split <;> rfl
@[simp] theorem State.giveUp_arbiter (n : Nat) (c : Bool) : (s.giveUp n c).arbiter = s.arbiter := by
  simp only [State.giveUp]; split <;> rfl
@[simp] theorem State.giveUp_sequencer (n : Nat) (c : Bool) : (s.giveUp n c).sequencer = s.sequencer := by
  simp only [State.giveUp]; split <;> rfl
@[simp] theorem State.giveUp_refresh (n : Nat) (c : Bool) : (s.giveUp n c).refresh = s.refresh := by
  simp only [State.giveUp]; split <;> rfl
@[simp] theorem State.giveUp_scrub (n : Nat) (c : Bool) : (s.giveUp n c).scrub = s.scrub := by
  simp only [State.giveUp]; split <;> rfl
@[simp] theorem State.giveUp_log (n : Nat) (c : Bool) : (s.giveUp n c).log = s.log := by
  simp only [State.giveUp]; split <;> rfl
@[simp] theorem State.giveUp_control (n : Nat) (c : Bool) : (s.giveUp n c).control = s.control := by
  simp only [State.giveUp]; split <;> rfl
@[simp] theorem State.giveUp_array (n : Nat) (c : Bool) : (s.giveUp n c).array = s.array := by
  simp only [State.giveUp]; split <;> rfl
@[simp] theorem State.giveUp_freeDraws (n : Nat) (c : Bool) : (s.giveUp n c).freeDraws = s.freeDraws := by
  simp only [State.giveUp]; split <;> rfl
@[simp] theorem State.giveUp_pending (n : Nat) (c : Bool) : (s.giveUp n c).pending = s.pending := by
  simp only [State.giveUp]; split <;> rfl

@[simp] theorem State.reserve_pins (p : Port) (a : Nat) (d : DecodeResult) : (s.reserve p a d).pins = s.pins := by
  simp only [State.reserve]; split; rfl; split <;> rfl
@[simp] theorem State.reserve_ports (p : Port) (a : Nat) (d : DecodeResult) : (s.reserve p a d).ports = s.ports := by
  simp only [State.reserve]; split; rfl; split <;> rfl
@[simp] theorem State.reserve_pageMap (p : Port) (a : Nat) (d : DecodeResult) : (s.reserve p a d).pageMap = s.pageMap := by
  simp only [State.reserve]; split; rfl; split <;> rfl
@[simp] theorem State.reserve_arbiter (p : Port) (a : Nat) (d : DecodeResult) : (s.reserve p a d).arbiter = s.arbiter := by
  simp only [State.reserve]; split; rfl; split <;> rfl
@[simp] theorem State.reserve_sequencer (p : Port) (a : Nat) (d : DecodeResult) : (s.reserve p a d).sequencer = s.sequencer := by
  simp only [State.reserve]; split; rfl; split <;> rfl
@[simp] theorem State.reserve_refresh (p : Port) (a : Nat) (d : DecodeResult) : (s.reserve p a d).refresh = s.refresh := by
  simp only [State.reserve]; split; rfl; split <;> rfl
@[simp] theorem State.reserve_clear (p : Port) (a : Nat) (d : DecodeResult) : (s.reserve p a d).clear = s.clear := by
  simp only [State.reserve]; split; rfl; split <;> rfl
@[simp] theorem State.reserve_scrub (p : Port) (a : Nat) (d : DecodeResult) : (s.reserve p a d).scrub = s.scrub := by
  simp only [State.reserve]; split; rfl; split <;> rfl
@[simp] theorem State.reserve_log (p : Port) (a : Nat) (d : DecodeResult) : (s.reserve p a d).log = s.log := by
  simp only [State.reserve]; split; rfl; split <;> rfl
@[simp] theorem State.reserve_control (p : Port) (a : Nat) (d : DecodeResult) : (s.reserve p a d).control = s.control := by
  simp only [State.reserve]; split; rfl; split <;> rfl
@[simp] theorem State.reserve_array (p : Port) (a : Nat) (d : DecodeResult) : (s.reserve p a d).array = s.array := by
  simp only [State.reserve]; split; rfl; split <;> rfl
@[simp] theorem State.reserve_freeDraws (p : Port) (a : Nat) (d : DecodeResult) : (s.reserve p a d).freeDraws = s.freeDraws := by
  simp only [State.reserve]; split; rfl; split <;> rfl
@[simp] theorem State.reserve_pending (p : Port) (a : Nat) (d : DecodeResult) : (s.reserve p a d).pending = s.pending := by
  simp only [State.reserve]; split; rfl; split <;> rfl

@[simp] theorem State.reportSingle_pins (a : Nat) (y : BitVec 6) (b : Subclass) (f : Finder) : (s.reportSingle a y b f).pins = s.pins := by
  simp only [State.reportSingle]; split <;> rfl
@[simp] theorem State.reportSingle_ports (a : Nat) (y : BitVec 6) (b : Subclass) (f : Finder) : (s.reportSingle a y b f).ports = s.ports := by
  simp only [State.reportSingle]; split <;> rfl
@[simp] theorem State.reportSingle_table (a : Nat) (y : BitVec 6) (b : Subclass) (f : Finder) : (s.reportSingle a y b f).table = s.table := by
  simp only [State.reportSingle]; split <;> rfl
@[simp] theorem State.reportSingle_arbiter (a : Nat) (y : BitVec 6) (b : Subclass) (f : Finder) : (s.reportSingle a y b f).arbiter = s.arbiter := by
  simp only [State.reportSingle]; split <;> rfl
@[simp] theorem State.reportSingle_sequencer (a : Nat) (y : BitVec 6) (b : Subclass) (f : Finder) : (s.reportSingle a y b f).sequencer = s.sequencer := by
  simp only [State.reportSingle]; split <;> rfl
@[simp] theorem State.reportSingle_refresh (a : Nat) (y : BitVec 6) (b : Subclass) (f : Finder) : (s.reportSingle a y b f).refresh = s.refresh := by
  simp only [State.reportSingle]; split <;> rfl
@[simp] theorem State.reportSingle_clear (a : Nat) (y : BitVec 6) (b : Subclass) (f : Finder) : (s.reportSingle a y b f).clear = s.clear := by
  simp only [State.reportSingle]; split <;> rfl
@[simp] theorem State.reportSingle_scrub (a : Nat) (y : BitVec 6) (b : Subclass) (f : Finder) : (s.reportSingle a y b f).scrub = s.scrub := by
  simp only [State.reportSingle]; split <;> rfl
@[simp] theorem State.reportSingle_control (a : Nat) (y : BitVec 6) (b : Subclass) (f : Finder) : (s.reportSingle a y b f).control = s.control := by
  simp only [State.reportSingle]; split <;> rfl
@[simp] theorem State.reportSingle_array (a : Nat) (y : BitVec 6) (b : Subclass) (f : Finder) : (s.reportSingle a y b f).array = s.array := by
  simp only [State.reportSingle]; split <;> rfl
@[simp] theorem State.reportSingle_freeDraws (a : Nat) (y : BitVec 6) (b : Subclass) (f : Finder) : (s.reportSingle a y b f).freeDraws = s.freeDraws := by
  simp only [State.reportSingle]; split <;> rfl
@[simp] theorem State.reportSingle_pending (a : Nat) (y : BitVec 6) (b : Subclass) (f : Finder) : (s.reportSingle a y b f).pending = s.pending := by
  simp only [State.reportSingle]; split <;> rfl

@[simp] theorem State.report_pins (a : Nat) (d : DecodeResult) (f : Finder) : (s.report a d f).pins = s.pins := by
  simp only [State.report]; split <;> simp [State.reportUncorrectable]
@[simp] theorem State.report_ports (a : Nat) (d : DecodeResult) (f : Finder) : (s.report a d f).ports = s.ports := by
  simp only [State.report]; split <;> simp [State.reportUncorrectable]
@[simp] theorem State.report_table (a : Nat) (d : DecodeResult) (f : Finder) : (s.report a d f).table = s.table := by
  simp only [State.report]; split <;> simp [State.reportUncorrectable]
@[simp] theorem State.report_arbiter (a : Nat) (d : DecodeResult) (f : Finder) : (s.report a d f).arbiter = s.arbiter := by
  simp only [State.report]; split <;> simp [State.reportUncorrectable]
@[simp] theorem State.report_sequencer (a : Nat) (d : DecodeResult) (f : Finder) : (s.report a d f).sequencer = s.sequencer := by
  simp only [State.report]; split <;> simp [State.reportUncorrectable]
@[simp] theorem State.report_refresh (a : Nat) (d : DecodeResult) (f : Finder) : (s.report a d f).refresh = s.refresh := by
  simp only [State.report]; split <;> simp [State.reportUncorrectable]
@[simp] theorem State.report_clear (a : Nat) (d : DecodeResult) (f : Finder) : (s.report a d f).clear = s.clear := by
  simp only [State.report]; split <;> simp [State.reportUncorrectable]
@[simp] theorem State.report_scrub (a : Nat) (d : DecodeResult) (f : Finder) : (s.report a d f).scrub = s.scrub := by
  simp only [State.report]; split <;> simp [State.reportUncorrectable]
@[simp] theorem State.report_control (a : Nat) (d : DecodeResult) (f : Finder) : (s.report a d f).control = s.control := by
  simp only [State.report]; split <;> simp [State.reportUncorrectable]
@[simp] theorem State.report_array (a : Nat) (d : DecodeResult) (f : Finder) : (s.report a d f).array = s.array := by
  simp only [State.report]; split <;> simp [State.reportUncorrectable]
@[simp] theorem State.report_freeDraws (a : Nat) (d : DecodeResult) (f : Finder) : (s.report a d f).freeDraws = s.freeDraws := by
  simp only [State.report]; split <;> simp [State.reportUncorrectable]
@[simp] theorem State.report_pending (a : Nat) (d : DecodeResult) (f : Finder) : (s.report a d f).pending = s.pending := by
  simp only [State.report]; split <;> simp [State.reportUncorrectable]

@[simp] theorem State.reportOf_pins (o : Operation) : (s.reportOf o).pins = s.pins := by
  simp only [State.reportOf]; split <;> simp
@[simp] theorem State.reportOf_ports (o : Operation) : (s.reportOf o).ports = s.ports := by
  simp only [State.reportOf]; split <;> simp
@[simp] theorem State.reportOf_table (o : Operation) : (s.reportOf o).table = s.table := by
  simp only [State.reportOf]; split <;> simp
@[simp] theorem State.reportOf_arbiter (o : Operation) : (s.reportOf o).arbiter = s.arbiter := by
  simp only [State.reportOf]; split <;> simp
@[simp] theorem State.reportOf_sequencer (o : Operation) : (s.reportOf o).sequencer = s.sequencer := by
  simp only [State.reportOf]; split <;> simp
@[simp] theorem State.reportOf_refresh (o : Operation) : (s.reportOf o).refresh = s.refresh := by
  simp only [State.reportOf]; split <;> simp
@[simp] theorem State.reportOf_clear (o : Operation) : (s.reportOf o).clear = s.clear := by
  simp only [State.reportOf]; split <;> simp
@[simp] theorem State.reportOf_scrub (o : Operation) : (s.reportOf o).scrub = s.scrub := by
  simp only [State.reportOf]; split <;> simp
@[simp] theorem State.reportOf_control (o : Operation) : (s.reportOf o).control = s.control := by
  simp only [State.reportOf]; split <;> simp
@[simp] theorem State.reportOf_array (o : Operation) : (s.reportOf o).array = s.array := by
  simp only [State.reportOf]; split <;> simp
@[simp] theorem State.reportOf_freeDraws (o : Operation) : (s.reportOf o).freeDraws = s.freeDraws := by
  simp only [State.reportOf]; split <;> simp
@[simp] theorem State.reportOf_pending (o : Operation) : (s.reportOf o).pending = s.pending := by
  simp only [State.reportOf]; split <;> simp

@[simp] theorem State.reserveOf_pins (o : Operation) (t : PortTerms) : (s.reserveOf o t).pins = s.pins := by
  simp only [State.reserveOf]; split <;> simp
@[simp] theorem State.reserveOf_ports (o : Operation) (t : PortTerms) : (s.reserveOf o t).ports = s.ports := by
  simp only [State.reserveOf]; split <;> simp
@[simp] theorem State.reserveOf_pageMap (o : Operation) (t : PortTerms) : (s.reserveOf o t).pageMap = s.pageMap := by
  simp only [State.reserveOf]; split <;> simp
@[simp] theorem State.reserveOf_arbiter (o : Operation) (t : PortTerms) : (s.reserveOf o t).arbiter = s.arbiter := by
  simp only [State.reserveOf]; split <;> simp
@[simp] theorem State.reserveOf_sequencer (o : Operation) (t : PortTerms) : (s.reserveOf o t).sequencer = s.sequencer := by
  simp only [State.reserveOf]; split <;> simp
@[simp] theorem State.reserveOf_refresh (o : Operation) (t : PortTerms) : (s.reserveOf o t).refresh = s.refresh := by
  simp only [State.reserveOf]; split <;> simp
@[simp] theorem State.reserveOf_clear (o : Operation) (t : PortTerms) : (s.reserveOf o t).clear = s.clear := by
  simp only [State.reserveOf]; split <;> simp
@[simp] theorem State.reserveOf_scrub (o : Operation) (t : PortTerms) : (s.reserveOf o t).scrub = s.scrub := by
  simp only [State.reserveOf]; split <;> simp
@[simp] theorem State.reserveOf_log (o : Operation) (t : PortTerms) : (s.reserveOf o t).log = s.log := by
  simp only [State.reserveOf]; split <;> simp
@[simp] theorem State.reserveOf_control (o : Operation) (t : PortTerms) : (s.reserveOf o t).control = s.control := by
  simp only [State.reserveOf]; split <;> simp
@[simp] theorem State.reserveOf_array (o : Operation) (t : PortTerms) : (s.reserveOf o t).array = s.array := by
  simp only [State.reserveOf]; split <;> simp
@[simp] theorem State.reserveOf_freeDraws (o : Operation) (t : PortTerms) : (s.reserveOf o t).freeDraws = s.freeDraws := by
  simp only [State.reserveOf]; split <;> simp
@[simp] theorem State.reserveOf_pending (o : Operation) (t : PortTerms) : (s.reserveOf o t).pending = s.pending := by
  simp only [State.reserveOf]; split <;> simp

@[simp] theorem State.giveAnswer_pins (t : PortTerms) (r : Response) : (s.giveAnswer t r).pins = s.pins := by
  simp only [State.giveAnswer]; split <;> rfl
@[simp] theorem State.giveAnswer_pageMap (t : PortTerms) (r : Response) : (s.giveAnswer t r).pageMap = s.pageMap := by
  simp only [State.giveAnswer]; split <;> rfl
@[simp] theorem State.giveAnswer_arbiter (t : PortTerms) (r : Response) : (s.giveAnswer t r).arbiter = s.arbiter := by
  simp only [State.giveAnswer]; split <;> rfl
@[simp] theorem State.giveAnswer_sequencer (t : PortTerms) (r : Response) : (s.giveAnswer t r).sequencer = s.sequencer := by
  simp only [State.giveAnswer]; split <;> rfl
@[simp] theorem State.giveAnswer_refresh (t : PortTerms) (r : Response) : (s.giveAnswer t r).refresh = s.refresh := by
  simp only [State.giveAnswer]; split <;> rfl
@[simp] theorem State.giveAnswer_clear (t : PortTerms) (r : Response) : (s.giveAnswer t r).clear = s.clear := by
  simp only [State.giveAnswer]; split <;> rfl
@[simp] theorem State.giveAnswer_scrub (t : PortTerms) (r : Response) : (s.giveAnswer t r).scrub = s.scrub := by
  simp only [State.giveAnswer]; split <;> rfl
@[simp] theorem State.giveAnswer_log (t : PortTerms) (r : Response) : (s.giveAnswer t r).log = s.log := by
  simp only [State.giveAnswer]; split <;> rfl
@[simp] theorem State.giveAnswer_control (t : PortTerms) (r : Response) : (s.giveAnswer t r).control = s.control := by
  simp only [State.giveAnswer]; split <;> rfl
@[simp] theorem State.giveAnswer_array (t : PortTerms) (r : Response) : (s.giveAnswer t r).array = s.array := by
  simp only [State.giveAnswer]; split <;> rfl
@[simp] theorem State.giveAnswer_freeDraws (t : PortTerms) (r : Response) : (s.giveAnswer t r).freeDraws = s.freeDraws := by
  simp only [State.giveAnswer]; split <;> rfl
@[simp] theorem State.giveAnswer_pending (t : PortTerms) (r : Response) : (s.giveAnswer t r).pending = s.pending := by
  simp only [State.giveAnswer]; split <;> rfl

@[simp] theorem State.servePort_pins (o : Operation) : (s.servePort o).pins = s.pins := by
  simp only [State.servePort]; split <;> simp
@[simp] theorem State.servePort_pageMap (o : Operation) : (s.servePort o).pageMap = s.pageMap := by
  simp only [State.servePort]; split <;> simp
@[simp] theorem State.servePort_arbiter (o : Operation) : (s.servePort o).arbiter = s.arbiter := by
  simp only [State.servePort]; split <;> simp
@[simp] theorem State.servePort_sequencer (o : Operation) : (s.servePort o).sequencer = s.sequencer := by
  simp only [State.servePort]; split <;> simp
@[simp] theorem State.servePort_refresh (o : Operation) : (s.servePort o).refresh = s.refresh := by
  simp only [State.servePort]; split <;> simp
@[simp] theorem State.servePort_clear (o : Operation) : (s.servePort o).clear = s.clear := by
  simp only [State.servePort]; split <;> simp
@[simp] theorem State.servePort_scrub (o : Operation) : (s.servePort o).scrub = s.scrub := by
  simp only [State.servePort]; split <;> simp
@[simp] theorem State.servePort_log (o : Operation) : (s.servePort o).log = s.log := by
  simp only [State.servePort]; split <;> simp
@[simp] theorem State.servePort_control (o : Operation) : (s.servePort o).control = s.control := by
  simp only [State.servePort]; split <;> simp
@[simp] theorem State.servePort_array (o : Operation) : (s.servePort o).array = s.array := by
  simp only [State.servePort]; split <;> simp
@[simp] theorem State.servePort_freeDraws (o : Operation) : (s.servePort o).freeDraws = s.freeDraws := by
  simp only [State.servePort]; split <;> simp
@[simp] theorem State.servePort_pending (o : Operation) : (s.servePort o).pending = s.pending := by
  simp only [State.servePort]; split <;> simp

@[simp] theorem State.complete_pins (o : Operation) : (s.complete o).pins = s.pins := by
  simp [State.complete]
@[simp] theorem State.complete_arbiter (o : Operation) : (s.complete o).arbiter = s.arbiter := by
  simp [State.complete]
@[simp] theorem State.complete_refresh (o : Operation) : (s.complete o).refresh = s.refresh := by
  simp [State.complete]
@[simp] theorem State.complete_clear (o : Operation) : (s.complete o).clear = s.clear := by
  simp [State.complete]
@[simp] theorem State.complete_scrub (o : Operation) : (s.complete o).scrub = s.scrub := by
  simp [State.complete]
@[simp] theorem State.complete_control (o : Operation) : (s.complete o).control = s.control := by
  simp [State.complete]
@[simp] theorem State.complete_freeDraws (o : Operation) : (s.complete o).freeDraws = s.freeDraws := by
  simp [State.complete]
@[simp] theorem State.complete_pending (o : Operation) : (s.complete o).pending = s.pending := by
  simp [State.complete]

@[simp] theorem State.cutOffer_pins (p : Port) (o : OfferEntry) : (State.cutOffer p s o).pins = s.pins := by
  rfl
@[simp] theorem State.cutOffer_ports (p : Port) (o : OfferEntry) : (State.cutOffer p s o).ports = s.ports := by
  rfl
@[simp] theorem State.cutOffer_table (p : Port) (o : OfferEntry) : (State.cutOffer p s o).table = s.table := by
  rfl
@[simp] theorem State.cutOffer_arbiter (p : Port) (o : OfferEntry) : (State.cutOffer p s o).arbiter = s.arbiter := by
  rfl
@[simp] theorem State.cutOffer_sequencer (p : Port) (o : OfferEntry) : (State.cutOffer p s o).sequencer = s.sequencer := by
  rfl
@[simp] theorem State.cutOffer_refresh (p : Port) (o : OfferEntry) : (State.cutOffer p s o).refresh = s.refresh := by
  rfl
@[simp] theorem State.cutOffer_clear (p : Port) (o : OfferEntry) : (State.cutOffer p s o).clear = s.clear := by
  rfl
@[simp] theorem State.cutOffer_scrub (p : Port) (o : OfferEntry) : (State.cutOffer p s o).scrub = s.scrub := by
  rfl
@[simp] theorem State.cutOffer_control (p : Port) (o : OfferEntry) : (State.cutOffer p s o).control = s.control := by
  rfl
@[simp] theorem State.cutOffer_array (p : Port) (o : OfferEntry) : (State.cutOffer p s o).array = s.array := by
  rfl
@[simp] theorem State.cutOffer_freeDraws (p : Port) (o : OfferEntry) : (State.cutOffer p s o).freeDraws = s.freeDraws := by
  rfl
@[simp] theorem State.cutOffer_pending (p : Port) (o : OfferEntry) : (State.cutOffer p s o).pending = s.pending := by
  rfl

@[simp] theorem State.logTakesAll_pins : s.logTakesAll.pins = s.pins := rfl
@[simp] theorem State.logTakesAll_ports : s.logTakesAll.ports = s.ports := rfl
@[simp] theorem State.logTakesAll_pageMap : s.logTakesAll.pageMap = s.pageMap := rfl
@[simp] theorem State.logTakesAll_table : s.logTakesAll.table = s.table := rfl
@[simp] theorem State.logTakesAll_arbiter : s.logTakesAll.arbiter = s.arbiter := rfl
@[simp] theorem State.logTakesAll_sequencer : s.logTakesAll.sequencer = s.sequencer := rfl
@[simp] theorem State.logTakesAll_refresh : s.logTakesAll.refresh = s.refresh := rfl
@[simp] theorem State.logTakesAll_clear : s.logTakesAll.clear = s.clear := rfl
@[simp] theorem State.logTakesAll_scrub : s.logTakesAll.scrub = s.scrub := rfl
@[simp] theorem State.logTakesAll_control : s.logTakesAll.control = s.control := rfl
@[simp] theorem State.logTakesAll_array : s.logTakesAll.array = s.array := rfl
@[simp] theorem State.logTakesAll_freeDraws : s.logTakesAll.freeDraws = s.freeDraws := rfl
@[simp] theorem State.logTakesAll_pending : s.logTakesAll.pending = s.pending := rfl
@[simp] theorem State.logTakesAll_log : s.logTakesAll.log = s.log.takeAll s.activePorts := rfl

@[simp] theorem State.enterActive_pins (p : Port) : (s.enterActive p).pins = s.pins := rfl
@[simp] theorem State.enterActive_pageMap (p : Port) : (s.enterActive p).pageMap = s.pageMap := rfl
@[simp] theorem State.enterActive_table (p : Port) : (s.enterActive p).table = s.table := rfl
@[simp] theorem State.enterActive_arbiter (p : Port) : (s.enterActive p).arbiter = s.arbiter := rfl
@[simp] theorem State.enterActive_sequencer (p : Port) : (s.enterActive p).sequencer = s.sequencer := rfl
@[simp] theorem State.enterActive_refresh (p : Port) : (s.enterActive p).refresh = s.refresh := rfl
@[simp] theorem State.enterActive_clear (p : Port) : (s.enterActive p).clear = s.clear := rfl
@[simp] theorem State.enterActive_scrub (p : Port) : (s.enterActive p).scrub = s.scrub := rfl
@[simp] theorem State.enterActive_control (p : Port) : (s.enterActive p).control = s.control := rfl
@[simp] theorem State.enterActive_array (p : Port) : (s.enterActive p).array = s.array := rfl
@[simp] theorem State.enterActive_freeDraws (p : Port) : (s.enterActive p).freeDraws = s.freeDraws := rfl
@[simp] theorem State.enterActive_pending (p : Port) : (s.enterActive p).pending = s.pending := rfl
@[simp] theorem State.enterActive_log (p : Port) : (s.enterActive p).log = s.log.takeAll s.activePorts := rfl

@[simp] theorem State.endInitClear_pins : s.endInitClear.pins = s.pins := rfl
@[simp] theorem State.endInitClear_ports : s.endInitClear.ports = s.ports := rfl
@[simp] theorem State.endInitClear_pageMap : s.endInitClear.pageMap = s.pageMap := rfl
@[simp] theorem State.endInitClear_table : s.endInitClear.table = s.table := rfl
@[simp] theorem State.endInitClear_arbiter : s.endInitClear.arbiter = s.arbiter := rfl
@[simp] theorem State.endInitClear_sequencer : s.endInitClear.sequencer = s.sequencer := rfl
@[simp] theorem State.endInitClear_refresh : s.endInitClear.refresh = s.refresh := rfl
@[simp] theorem State.endInitClear_clear : s.endInitClear.clear = s.clear := rfl
@[simp] theorem State.endInitClear_scrub : s.endInitClear.scrub = s.scrub := rfl
@[simp] theorem State.endInitClear_array : s.endInitClear.array = s.array := rfl
@[simp] theorem State.endInitClear_freeDraws : s.endInitClear.freeDraws = s.freeDraws := rfl
@[simp] theorem State.endInitClear_pending : s.endInitClear.pending = s.pending := rfl

/-! ### Parking -/

/-- A new list of reservations gives every port the mark its current request calls for (R87). -/
theorem State.setReservations_parking (l : List Reservation) (p : Port) :
    (s.setReservations l).table.parking.get p = parkingMark l p (s.port p).current := by
  simp

/-- A drop removes exactly the entries it names (R101). -/
theorem State.mem_dropReservations (gone : Reservation → Bool) (e : Reservation) :
    e ∈ (s.dropReservations gone).table.entries ↔ e ∈ s.table.entries ∧ gone e = false := by
  simp [State.dropReservations]

/-- The entries keep their order through a drop (R83). -/
theorem State.dropReservations_sublist (gone : Reservation → Bool) :
    (s.dropReservations gone).table.entries.Sublist s.table.entries := by
  simp [State.dropReservations]

/-! ### Taking and answering requests -/

@[simp] theorem State.portCheck_setPort (p : Port) (r : PortRecord) : (s.setPort p r).portCheck = s.portCheck := rfl

/-- The queue is split where the first request passes: those before it are answered in order, and what is behind it
stays in the queue (R24, R30). -/
theorem takeNext_spec (check : Request → Option Status) (queue : List Request) (responses : List Response) :
    ∃ refused : List (Request × Status),
      (∀ x ∈ refused, check x.1 = some x.2) ∧
      (takeNext check responses queue).2.2 = responses ++ refused.map (fun x => plainResponse x.1 x.2) ∧
      (((takeNext check responses queue).1 = none ∧ (takeNext check responses queue).2.1 = [] ∧
          queue = refused.map Prod.fst) ∨
        ∃ m, check m = none ∧ (takeNext check responses queue).1 = some { msg := m, phase := .routed } ∧
          queue = refused.map Prod.fst ++ m :: (takeNext check responses queue).2.1) := by
  induction queue generalizing responses with
  | nil => exact ⟨[], by simp, by simp [takeNext], .inl (by simp [takeNext])⟩
  | cons m rest ih =>
    cases h : check m with
    | none => exact ⟨[], by simp, by simp [takeNext, h], .inr ⟨m, h, by simp [takeNext, h]⟩⟩
    | some st =>
      obtain ⟨refused, h1, h2, h3⟩ := ih (responses ++ [plainResponse m st])
      refine ⟨(m, st) :: refused, ?_, ?_, ?_⟩
      · simpa [h] using h1
      · simp [takeNext, h, h2]
      · simpa [takeNext, h] using h3

/-- Nothing is lost while requests are answered and one is taken: queue, current request and responses together keep
their number (R19). -/
theorem takeNext_count (check : Request → Option Status) (queue : List Request) (responses : List Response) :
    (takeNext check responses queue).2.1.length + (if (takeNext check responses queue).1.isSome then 1 else 0) +
      (takeNext check responses queue).2.2.length = queue.length + responses.length := by
  obtain ⟨refused, _, h2, h3 | ⟨m, _, h4, h5⟩⟩ := takeNext_spec check queue responses
  · rw [h2, h3.1, h3.2.1, h3.2.2]
    simp
    omega
  · have h6 := congrArg List.length h5
    rw [h2, h4]
    simp at h6 ⊢
    omega

/-- A request that becomes current has passed the checks and waits in ROUTED (R24, R28). -/
theorem takeNext_current (check : Request → Option Status) (queue : List Request) (responses : List Response)
    (c : CurrentRequest) (h : (takeNext check responses queue).1 = some c) :
    check c.msg = none ∧ c.phase = .routed := by
  obtain ⟨_, _, _, h3 | ⟨m, h4, h5, _⟩⟩ := takeNext_spec check queue responses
  · rw [h3.1] at h
    cases h
  · rw [h5] at h
    cases h
    exact ⟨h4, rfl⟩

/-- The ports after a port is answered: that port alone changes (R30). -/
theorem State.answer_ports (p : Port) (r : Response) :
    (s.answer p r).ports = s.ports.set p (((s.port p).answered r).becomeCurrent s.portCheck) := by
  cases p <;> rfl

/-- The record of the port that is answered (R30). -/
theorem State.port_answer_same (p : Port) (r : Response) :
    (s.answer p r).port p = ((s.port p).answered r).becomeCurrent s.portCheck := by
  simp [State.port, State.answer_ports]

/-- No other port is changed by an answer. -/
@[simp] theorem State.port_answer_of_ne {p q : Port} (r : Response) (h : q ≠ p) : (s.answer p r).port q = s.port q := by
  simp [State.port, State.answer_ports, h]

/-- The reservation entries stand through an answer; the port's mark is evaluated afresh (R87). -/
theorem State.answer_table (p : Port) (r : Response) :
    (s.answer p r).table =
      { s.table with
        parking := s.table.parking.set p (parkingMark s.table.entries p ((s.answer p r).port p).current) } :=
  rfl

/-- An answer joins the response queue in front of the refusals of the requests behind it (R30). -/
theorem State.answer_responses (p : Port) (r : Response) (h : (s.port p).current.isSome) :
    ∃ more, ((s.answer p r).port p).responses = (s.port p).responses ++ r :: more := by
  obtain ⟨c, hc⟩ := Option.isSome_iff_exists.mp h
  obtain ⟨refused, _, h2, _⟩ := takeNext_spec s.portCheck (s.port p).queue ((s.port p).responses ++ [r])
  refine ⟨refused.map (fun x => plainResponse x.1 x.2), ?_⟩
  rw [State.port_answer_same]
  simp [PortRecord.answered, PortRecord.becomeCurrent, hc, h2]

/-- A request found in a phase with a kind is the port's current request. -/
theorem State.currentAs_some {p : Port} {ph : ServicePhase} {k : RequestKind} {m : Request}
    (h : s.currentAs p ph k = some m) : (s.port p).current = some { msg := m, phase := ph } ∧ m.kind = some k := by
  unfold State.currentAs at h
  split at h
  · cases h
  · rename_i c hc
    split at h
    · rename_i hk
      cases h
      exact ⟨by rw [hc, ← hk.1], hk.2⟩
    · cases h

/-- A request taken by its owner block stands in ROUTED at its port. -/
theorem State.routed_some {p : Port} {k : RequestKind} {m : Request} (h : s.routed p k = some m) :
    (s.port p).current = some { msg := m, phase := .routed } ∧ m.kind = some k :=
  s.currentAs_some h

/-! ### Sets of ports -/

@[simp] theorem PortSet.get_inter (a b : PortSet) (p : Port) :
    PerPort.get (PortSet.inter a b) p = (a.get p && b.get p) := by
  simp [PortSet.inter]

@[simp] theorem PortSet.get_union (a b : PortSet) (p : Port) :
    PerPort.get (PortSet.union a b) p = (a.get p || b.get p) := by
  simp [PortSet.union]

@[simp] theorem PortSet.get_empty (p : Port) : PerPort.get PortSet.empty p = false := by
  simp [PortSet.empty]

/-- A port is in the set of one port exactly when it is that port. -/
@[simp] theorem PortSet.get_only (p q : Port) : PerPort.get (PortSet.only p) q = decide (q = p) := by
  cases p <;> cases q <;> rfl

/-- A port is in a set without another exactly when it was in it and is not that one. -/
@[simp] theorem PortSet.get_without (a : PortSet) (p q : Port) :
    PerPort.get (PortSet.without a p) q = (a.get q && decide (q ≠ p)) := by
  by_cases h : q = p
  · subst h
    simp [PortSet.without]
  · simp [PortSet.without, h]

/-- A set is empty exactly when no port is in it. -/
theorem PortSet.isEmpty_iff (a : PortSet) : PortSet.isEmpty a = true ↔ ∀ p, a.get p = false := by
  constructor
  · intro h p
    cases p <;> simp_all [PortSet.isEmpty, PerPort.get]
  · intro h
    have h0 := h .p0
    have h1 := h .p1
    have h2 := h .p2
    have h3 := h .p3
    simp_all [PortSet.isEmpty, PerPort.get]

@[simp] theorem State.activePorts_get (p : Port) : s.activePorts.get p = s.isActive p := by
  simp [State.activePorts]

/-! ### The notice log takes requests -/

/-- Every recipient of a request is one of the ports ACTIVE when it is taken (R155). -/
theorem NoticeRequest.active_of_recipient {r : NoticeRequest} {active : PortSet} {p : Port}
    (h : (r.recipients active).get p = true) : active.get p = true := by
  have page : ∀ i : PageInfo, (i.recipients active).get p = true → active.get p = true := by
    intro i hi
    unfold PageInfo.recipients at hi
    split at hi <;> simp_all
  cases r
  case corrected => exact page _ h
  case uncorrectable => exact page _ h
  case weakPage => exact page _ h
  all_goals
    simp only [NoticeRequest.recipients, PortSet.get_inter, PortSet.get_without, Bool.and_eq_true] at h
    first
      | exact h
      | exact h.1
      | exact h.2

/-- Taking one request leaves those that wait. -/
@[simp] theorem NoticeLog.take_asked (l : NoticeLog) (active : PortSet) (r : NoticeRequest) :
    (l.take active r).asked = l.asked := by
  unfold NoticeLog.take NoticeLog.create
  split
  · rfl
  · split <;> rfl

/-- Which requests wait plays no part in taking one. -/
theorem NoticeLog.take_withAsked (l : NoticeLog) (active : PortSet) (r : NoticeRequest) (waiting : List NoticeRequest) :
    NoticeLog.take { l with asked := waiting } active r = { l.take active r with asked := waiting } := by
  unfold NoticeLog.take NoticeLog.create
  split
  · rfl
  · simp only
    split <;> rfl

/-- A property that taking a request keeps holds when the log has taken all that wait. -/
theorem NoticeLog.takeAll_induction {P : NoticeLog → Prop} (active : PortSet)
    (step : ∀ l r, P l → P (NoticeLog.take l active r)) (l : NoticeLog) (start : P { l with asked := [] }) :
    P (l.takeAll active) := by
  unfold NoticeLog.takeAll
  generalize { l with asked := [] } = l' at start
  induction l.asked generalizing l' with
  | nil => exact start
  | cons r rest ih => exact ih _ (step l' r start)

/-- Once the log has taken all, nothing waits. -/
@[simp] theorem NoticeLog.takeAll_asked (l : NoticeLog) (active : PortSet) : (l.takeAll active).asked = [] :=
  NoticeLog.takeAll_induction (P := fun l => l.asked = []) active (fun _ _ h => by simpa using h) l rfl

/-- With nothing waiting, taking all changes nothing. -/
theorem NoticeLog.takeAll_of_nil {l : NoticeLog} (active : PortSet) (h : l.asked = []) : l.takeAll active = l := by
  unfold NoticeLog.takeAll
  rw [h, List.foldl_nil, ← h]

/-- Taking all is taking the oldest, then all the others. -/
theorem NoticeLog.takeAll_of_cons {l : NoticeLog} (active : PortSet) {r : NoticeRequest} {rest : List NoticeRequest}
    (h : l.asked = r :: rest) :
    l.takeAll active = NoticeLog.takeAll (NoticeLog.take { l with asked := rest } active r) active := by
  simp only [NoticeLog.takeAll, h, List.foldl_cons, NoticeLog.take_withAsked]

/-- NOTICE_RECORD_CREATE for the block of the oldest request takes that request. -/
theorem execNoticeRecordCreate_oldest {r : NoticeRequest} {rest : List NoticeRequest} (h : s.log.asked = r :: rest) :
    execNoticeRecordCreate r.asker s =
      .next (s.setLog (NoticeLog.take { s.log with asked := rest } s.activePorts r)) := by
  have found : s.log.takeable.find? (NoticeRequest.from r.asker) = some r := by
    unfold NoticeLog.takeable
    split
    next hr =>
      have : r = .ready := by simpa [h] using hr
      subst this
      rfl
    next => simp [h, NoticeRequest.from]
  simp [execNoticeRecordCreate, found, h, NoticeRequest.from]

end Sys2Proof.Machine
end

