-- ==== Sys2Proof/Laws/Claims.lean ====
section
/-! SUPPORT. What an answer, a refusal and a change of reservations do, in the words in which claims about one command
are made (Safety.lean). -/
namespace Sys2Proof.Machine

variable {s : State}

/-! ### The parking mark -/

/-- The kinds that park are those of R86. -/
theorem RequestKind.parks_iff (k : RequestKind) : k.parks = true ↔ k = .write ∨ k = .mergeWrite ∨ k = .lockedRead := by
  cases k <;> decide

/-- The mark the model computes names the word the request is parked on, and no other (R86). -/
theorem parkingMark_eq_some_iff (entries : List Reservation) (p : Port) (current : Option CurrentRequest) (a : Nat) :
    parkingMark entries p current = some a ↔ Parked entries p current a := by
  have held : ∀ x, heldByOther entries p x = true ↔ ∃ e ∈ entries, e.addr = x ∧ e.port ≠ p := by
    simp [heldByOther]
  rcases current with _ | ⟨m, phase⟩
  · simp [parkingMark, Parked]
  · cases phase
    · rcases hk : m.kind with _ | k
      · simp [parkingMark, Parked, hk]
      · simp only [parkingMark, Parked, hk, Bool.and_eq_true, RequestKind.parks_iff, held, Option.some.injEq,
          CurrentRequest.mk.injEq, and_true]
        constructor
        · intro h
          split at h
          next hc =>
            cases h
            exact ⟨m, rfl, rfl, by simpa [hk] using hc.1, hc.2⟩
          next => cases h
        · rintro ⟨_, rfl, rfl, hkind, he⟩
          rw [if_pos ⟨by simpa [hk] using hkind, he⟩]
    · simp [parkingMark, Parked]

/-- A mark is right exactly when it is the one the model computes. -/
theorem markedRight_iff {entries : List Reservation} {p : Port} {current : Option CurrentRequest} {mark : Option Nat} :
    MarkedRight entries p current mark ↔ mark = parkingMark entries p current := by
  simp only [MarkedRight, ← parkingMark_eq_some_iff]
  exact ⟨fun h => Option.ext h, fun h a => by rw [h]⟩

/-- Every mark is right exactly when each is the one the model computes. -/
theorem State.parkingSound_iff :
    s.ParkingSound ↔ ∀ p, s.table.parking.get p = parkingMark s.table.entries p (s.port p).current :=
  forall_congr' fun _ => markedRight_iff

/-! ### Answers and refusals -/

/-- A request that waits in ROUTED is what the owner block takes. -/
theorem State.Routed.eq {p : Port} {m : Request} {k : RequestKind} (h : s.Routed p m k) : s.routed p k = some m := by
  simp [State.routed, State.currentAs, h.1, h.2]

/-- A port answered in a state whose ports are those of an earlier state is answered as from that one. -/
theorem State.answeredWith_answer {u : State} (h : u.ports = s.ports) (p : Port) (r : Response) :
    s.AnsweredWith (u.answer p r) p r := by
  refine ⟨?_, fun q hq => ?_⟩
  · rw [State.port_answer_same, State.port_congr h]
    rfl
  · rw [State.port_answer_of_ne u r hq, State.port_congr h]

/-- An answer evaluates parking for its port alone. -/
theorem State.remarked_answer {u : State} (h : u.table.parking = s.table.parking) (p : Port) (r : Response) :
    s.Remarked (u.answer p r) p := by
  refine ⟨markedRight_iff.mpr ?_, fun q hq => ?_⟩
  · simp [State.answer_table]
  · simp [State.answer_table, hq, h]

/-- An answer alone touches the ports and the parking marks. -/
theorem State.changesOnly_answer (p : Port) (r : Response) : s.ChangesOnly (s.answer p r) [.ports, .parking] := by
  intro b hb
  cases b <;> first | rfl | exact absurd (by simp) hb

/-- A refusal is an answer and nothing else. -/
theorem State.refusedWith_answerStatus (p : Port) (m : Request) (st : Status) :
    s.RefusedWith (s.answerStatus p m st) p m st :=
  ⟨State.answeredWith_answer rfl p _, State.remarked_answer rfl p _, State.changesOnly_answer p _⟩

/-- After a change of the reservations and an answer every mark is what its port's current request calls for (R87). -/
theorem State.parkingSound_setReservations_answer (l : List Reservation) (p : Port) (r : Response) :
    ((s.setReservations l).answer p r).ParkingSound := by
  refine State.parkingSound_iff.mpr fun q => ?_
  by_cases h : q = p
  · subst h
    simp [State.answer_table]
  · rw [State.port_answer_of_ne _ r h]
    simp [State.answer_table, h]
    rfl

/-- The marks are judged by the table and the ports alone. -/
theorem State.parkingSound_congr {u : State} (ht : u.table = s.table) (hp : u.ports = s.ports) :
    u.ParkingSound ↔ s.ParkingSound := by
  simp only [State.ParkingSound, ht, State.port, hp]

/-- An answer keeps the marks sound. -/
theorem State.parkingSound_answer (h : s.ParkingSound) (p : Port) (r : Response) : (s.answer p r).ParkingSound := by
  refine State.parkingSound_iff.mpr fun q => ?_
  by_cases hq : q = p
  · subst hq
    simp [State.answer_table]
  · rw [State.port_answer_of_ne _ r hq]
    simpa [State.answer_table, hq] using State.parkingSound_iff.mp h q

/-- One page entry replaced, in a state that then changes no entry. -/
theorem State.entryBecomes_setEntry {u : State} {n : Nat} {e : PageEntry} (hn : n < s.pageMap.entries.length)
    (h : u.pageMap.entries = s.pageMap.entries.set n e) : s.EntryBecomes u n e := by
  have hu : u.pageMap.entries = (s.setEntry n e).pageMap.entries := h
  refine ⟨?_, fun k hk => ?_, by simp [h]⟩
  · rw [State.entry_congr hu, State.entry_setEntry_same s n e hn]
  · rw [State.entry_congr hu, State.entry_setEntry_of_ne s e hk]

/-- A page in any state but CLEARING has an entry (log entry 18). -/
theorem State.lt_of_entry {n : Nat} (h : (s.entry n).state ≠ .clearing) : n < s.pageMap.entries.length := by
  by_cases hn : n < s.pageMap.entries.length
  · exact hn
  · exfalso
    apply h
    simp [State.entry, List.getElem?_eq_none (Nat.le_of_not_lt hn), PageEntry.afterColdReset]

end Sys2Proof.Machine
end

