-- ==== Sys2Proof/Laws/Code.lean ====
section
/-! SUPPORT. The parities of the check code are linear, which is how a changed position shows in the syndrome (R4). -/
namespace Sys2Proof.Machine

theorem foldl_xor (f : Nat → Bool) (l : List Nat) (b : Bool) :
    l.foldl (fun acc n => acc ^^ f n) b = (b ^^ l.foldl (fun acc n => acc ^^ f n) false) := by
  induction l generalizing b with
  | nil => simp
  | cons n rest ih =>
    rw [List.foldl_cons, ih, List.foldl_cons, ih (false ^^ f n)]
    simp

theorem foldl_xor_xor (f g : Nat → Bool) (l : List Nat) :
    l.foldl (fun acc n => acc ^^ (f n ^^ g n)) false =
      (l.foldl (fun acc n => acc ^^ f n) false ^^ l.foldl (fun acc n => acc ^^ g n) false) := by
  induction l with
  | nil => rfl
  | cons n rest ih =>
    rw [List.foldl_cons, List.foldl_cons, List.foldl_cons, foldl_xor (fun n => f n ^^ g n), ih,
      foldl_xor f rest (false ^^ f n), foldl_xor g rest (false ^^ g n)]
    generalize rest.foldl (fun acc n => acc ^^ f n) false = x
    generalize rest.foldl (fun acc n => acc ^^ g n) false = y
    cases f n <;> cases g n <;> cases x <;> cases y <;> rfl

/-- The parity of an exclusive-or is the exclusive-or of the parities. -/
theorem parityOf_xor (select : Nat → Bool) (v w : StoredWord) :
    parityOf select (v ^^^ w) = (parityOf select v ^^ parityOf select w) := by
  unfold parityOf
  rw [← foldl_xor_xor]
  congr 1
  funext acc n
  cases select n <;> simp

/-- The syndrome of an exclusive-or is the exclusive-or of the syndromes (R4). -/
theorem syndromeOf_xor (v w : StoredWord) : syndromeOf (v ^^^ w) = syndromeOf v ^^^ syndromeOf w := by
  simp only [syndromeOf, parityOf_xor, ← BitVec.ofBool_xor_ofBool, ← BitVec.xor_append]

/-- The overall parity check of an exclusive-or (R4). -/
theorem overallBad_xor (v w : StoredWord) : overallBad (v ^^^ w) = (overallBad v ^^ overallBad w) := parityOf_xor _ v w

/-- One changed position shows its own number as the syndrome, and bad overall parity (R4). -/
theorem syndrome_of_position : ∀ n : Fin 40, (syndromeOf (1#40 <<< n.val)).toNat = n.val ∧
    overallBad (1#40 <<< n.val) = true := by
  decide +kernel

/-- Reading the data and guard positions of an exclusive-or. -/
theorem extractData_xor (v w : StoredWord) :
    extractData (v ^^^ w) =
      { data := (extractData v).data ^^^ (extractData w).data, guard := (extractData v).guard ^^ (extractData w).guard } := by
  simp only [extractData, BitVec.extractLsb'_xor, BitVec.getLsbD_xor, ← BitVec.xor_append]

end Sys2Proof.Machine
end

