-- ==== Sys2Proof/Laws/Memory.lean ====
section
/-! SUPPORT. The array: a read after a write, and the canonical form that every write keeps. -/
namespace Sys2Proof.Machine

theorem Memory.read_cons (x y : Nat) (w : StoredWord) (rest : Memory) (h : Memory.read rest x = Config.unwrittenWord) :
    Memory.read (Memory.cons x w rest) y = if y = x then w else Memory.read rest y := by
  unfold Memory.cons
  by_cases hw : w = Config.unwrittenWord
  · by_cases hy : y = x
    · subst hy
      simp [hw, h]
    · simp [hw, hy]
  · simp [hw, Memory.read]

/-- No entry of a list lies below a bound. -/
def Memory.above (b : Nat) (m : Memory) : Prop := ∀ c ∈ m, b < c.1

theorem Memory.read_of_above {x : Nat} {m : Memory} (h : Memory.above x m) : Memory.read m x = Config.unwrittenWord := by
  induction m with
  | nil => rfl
  | cons c rest ih =>
    have hc : x < c.1 := h c (by simp)
    have hr : Memory.above x rest := fun d hd => h d (by simp [hd])
    have hne : x ≠ c.1 := Nat.ne_of_lt hc
    simp [Memory.read, hne, ih hr]

/-- The canonical form as a property of the list. -/
theorem Memory.wf_iff (m : Memory) :
    m.wf = true ↔ m.Pairwise (fun c d => c.1 < d.1) ∧ ∀ c ∈ m, c.2 ≠ Config.unwrittenWord := by
  simp [Memory.wf, List.all_eq_true]

theorem Memory.wf_cons_iff (c : Nat × StoredWord) (m : Memory) :
    Memory.wf (c :: m) = true ↔ Memory.above c.1 m ∧ c.2 ≠ Config.unwrittenWord ∧ m.wf = true := by
  rw [Memory.wf_iff, Memory.wf_iff, List.pairwise_cons]
  constructor
  · rintro ⟨⟨h1, h2⟩, h3⟩
    exact ⟨h1, h3 c (by simp), h2, fun d hd => h3 d (by simp [hd])⟩
  · rintro ⟨h1, h2, h3, h4⟩
    refine ⟨⟨h1, h3⟩, fun d hd => ?_⟩
    cases hd with
    | head => exact h2
    | tail _ hd => exact h4 d hd

/-- In a canonical array, reading any address after a write gives the word written there, and elsewhere what it gave
before. -/
theorem Memory.read_write {m : Memory} (h : m.wf = true) (x y : Nat) (w : StoredWord) :
    Memory.read (Memory.write m x w) y = if y = x then w else Memory.read m y := by
  induction m with
  | nil => exact Memory.read_cons x y w [] rfl
  | cons c rest ih =>
    obtain ⟨a, v⟩ := c
    obtain ⟨ha, hv, hr⟩ := (Memory.wf_cons_iff _ _).mp h
    unfold Memory.write
    by_cases hlt : x < a
    · have hab : Memory.above x ((a, v) :: rest) := by
        intro d hd
        cases hd with
        | head => exact hlt
        | tail _ hd => exact Nat.lt_trans hlt (ha d hd)
      simp only [hlt, if_true]
      exact Memory.read_cons x y w _ (Memory.read_of_above hab)
    · by_cases heq : x = a
      · subst heq
        simp only [Nat.lt_irrefl, if_false, if_true]
        rw [Memory.read_cons x y w rest (Memory.read_of_above ha)]
        by_cases hy : y = x <;> simp [Memory.read, hy]
      · simp only [hlt, heq, if_false, Memory.read]
        rw [ih hr]
        by_cases hy : y = a
        · subst hy
          have hne : y ≠ x := fun e => heq e.symm
          simp [hne]
        · simp [hy]

theorem Memory.mem_cons {x : Nat} {w : StoredWord} {rest : Memory} {c : Nat × StoredWord}
    (h : c ∈ Memory.cons x w rest) : c.1 = x ∨ c ∈ rest := by
  unfold Memory.cons at h
  split at h
  · exact .inr h
  · cases h with
    | head => exact .inl rfl
    | tail _ h => exact .inr h

/-- A write adds no address but its own. -/
theorem Memory.mem_write {m : Memory} {x : Nat} {w : StoredWord} {c : Nat × StoredWord} (h : c ∈ Memory.write m x w) :
    c.1 = x ∨ c ∈ m := by
  induction m with
  | nil => exact Memory.mem_cons h
  | cons d rest ih =>
    unfold Memory.write at h
    split at h
    · exact Memory.mem_cons h
    · split at h
      · rcases Memory.mem_cons h with h | h
        · exact .inl h
        · exact .inr (by simp [h])
      · cases h with
        | head => exact .inr (by simp)
        | tail _ h =>
          rcases ih h with h | h
          · exact .inl h
          · exact .inr (by simp [h])

theorem Memory.wf_cons {x : Nat} {w : StoredWord} {rest : Memory} (ha : Memory.above x rest) (hr : rest.wf = true) :
    (Memory.cons x w rest).wf = true := by
  unfold Memory.cons
  split
  · exact hr
  · rename_i hw
    exact (Memory.wf_cons_iff _ _).mpr ⟨ha, hw, hr⟩

/-- Every write keeps the canonical form. -/
theorem Memory.wf_write {m : Memory} (h : m.wf = true) (x : Nat) (w : StoredWord) : (Memory.write m x w).wf = true := by
  induction m with
  | nil => exact Memory.wf_cons (fun _ hc => by cases hc) h
  | cons c rest ih =>
    obtain ⟨a, v⟩ := c
    obtain ⟨ha, hv, hr⟩ := (Memory.wf_cons_iff _ _).mp h
    unfold Memory.write
    split
    · rename_i hlt
      refine Memory.wf_cons (fun d hd => ?_) h
      cases hd with
      | head => exact hlt
      | tail _ hd => exact Nat.lt_trans hlt (ha d hd)
    · split
      · rename_i heq
        exact Memory.wf_cons (heq ▸ ha) hr
      · rename_i hlt hne
        refine (Memory.wf_cons_iff _ _).mpr ⟨fun d hd => ?_, hv, ih hr⟩
        rcases Memory.mem_write hd with hd | hd
        · omega
        · exact ha d hd

/-- The reset memory is canonical. -/
theorem Memory.wf_nil : Memory.wf [] = true := rfl

end Sys2Proof.Machine
end

