-- ==== Sys2Proof/Laws/PerInstr.lean ====
section
/-! SUPPORT. What is proved of every command, one lemma for each constructor: a command is well formed exactly when
the word and the page it names lie in the largest array the part can drive. -/
namespace Sys2Proof.Laws.OperandRange

/-- The check of WellFormed.lean is the range of the word and the page the command names (R71, R83, R170). -/
def Statement (i : Instr) : Prop :=
  i.wellFormed = true ↔ (∀ a, i.namedWord = some a → a < 4194304) ∧ ∀ n, i.namedPage = some n → n < 1024

/-- A command that names no word and no page is well formed. -/
theorem of_names_none {i : Instr} (h : i.wellFormed = true) (hw : i.namedWord = none) (hp : i.namedPage = none) :
    Statement i := by
  simp [Statement, h, hw, hp]

theorem nrstFalls : Statement .nrstFalls := of_names_none rfl rfl rfl
theorem nrstRises (msize : BitVec 2) (pen : PortSet) : Statement (.nrstRises msize pen) := of_names_none rfl rfl rfl
theorem prstFalls (p : Port) : Statement (.prstFalls p) := of_names_none rfl rfl rfl
theorem prstRises (p : Port) : Statement (.prstRises p) := of_names_none rfl rfl rfl
theorem linkUpDelivered (p : Port) : Statement (.linkUpDelivered p) := of_names_none rfl rfl rfl
theorem requestArrives (p : Port) (w0 w1 w2 : Word) : Statement (.requestArrives p w0 w1 w2) := of_names_none rfl rfl rfl
theorem responseDelivered (p : Port) : Statement (.responseDelivered p) := of_names_none rfl rfl rfl
theorem read (p : Port) : Statement (.read p) := of_names_none rfl rfl rfl
theorem write (p : Port) : Statement (.write p) := of_names_none rfl rfl rfl
theorem mergeWrite (p : Port) : Statement (.mergeWrite p) := of_names_none rfl rfl rfl
theorem lockedRead (p : Port) : Statement (.lockedRead p) := of_names_none rfl rfl rfl
theorem condWrite (p : Port) : Statement (.condWrite p) := of_names_none rfl rfl rfl
theorem refreshGrant : Statement .refreshGrant := of_names_none rfl rfl rfl
theorem clearGrant : Statement .clearGrant := of_names_none rfl rfl rfl
theorem scrubGrant : Statement .scrubGrant := of_names_none rfl rfl rfl
theorem readingEnds (flips : StoredWord) : Statement (.readingEnds flips) := of_names_none rfl rfl rfl
theorem readOpCompletes : Statement .readOpCompletes := of_names_none rfl rfl rfl
theorem storeCompletes : Statement .storeCompletes := of_names_none rfl rfl rfl
theorem checkedStoreCompletes : Statement .checkedStoreCompletes := of_names_none rfl rfl rfl
theorem mergeCompletes : Statement .mergeCompletes := of_names_none rfl rfl rfl
theorem refreshCompletes : Statement .refreshCompletes := of_names_none rfl rfl rfl
theorem clearCompletes : Statement .clearCompletes := of_names_none rfl rfl rfl
theorem scrubCompletes : Statement .scrubCompletes := of_names_none rfl rfl rfl
theorem refreshIntervalRunsOut : Statement .refreshIntervalRunsOut := of_names_none rfl rfl rfl
theorem scrubIntervalRunsOut : Statement .scrubIntervalRunsOut := of_names_none rfl rfl rfl
theorem reservationLifetimeRunsOut (addr : Nat) : Statement (.reservationLifetimeRunsOut addr) := by
  simp [Statement, Instr.wellFormed, wordInRange, Instr.namedWord, Instr.namedPage]
theorem offerLifetimeRunsOut (page : Nat) : Statement (.offerLifetimeRunsOut page) := by
  simp [Statement, Instr.wellFormed, pageInRange, Instr.namedWord, Instr.namedPage]
theorem unlock (p : Port) : Statement (.unlock p) := of_names_none rfl rfl rfl
theorem claim (p : Port) : Statement (.claim p) := of_names_none rfl rfl rfl
theorem grant (p : Port) : Statement (.grant p) := of_names_none rfl rfl rfl
theorem revoke (p : Port) : Statement (.revoke p) := of_names_none rfl rfl rfl
theorem offer (p : Port) : Statement (.offer p) := of_names_none rfl rfl rfl
theorem accept (p : Port) : Statement (.accept p) := of_names_none rfl rfl rfl
theorem withdraw (p : Port) : Statement (.withdraw p) := of_names_none rfl rfl rfl
theorem release (p : Port) : Statement (.release p) := of_names_none rfl rfl rfl
theorem pageQuery (p : Port) : Statement (.pageQuery p) := of_names_none rfl rfl rfl
theorem fetchNotice (p : Port) : Statement (.fetchNotice p) := of_names_none rfl rfl rfl
theorem ctlRead (p : Port) : Statement (.ctlRead p) := of_names_none rfl rfl rfl
theorem ctlWrite (p : Port) : Statement (.ctlWrite p) := of_names_none rfl rfl rfl
theorem lostCount (p : Port) : Statement (.lostCount p) := of_names_none rfl rfl rfl
theorem start (p : Port) : Statement (.start p) := of_names_none rfl rfl rfl
theorem noticeRecordCreate (asker : Asker) : Statement (.noticeRecordCreate asker) := of_names_none rfl rfl rfl

end Sys2Proof.Laws.OperandRange
end

