-- ==== Sys2Proof/Tests/Slice0.lean ====
section
/-! SUPPORT. Tests: ill-formed commands refused, the spec's worked examples one step at a time, and for every
statement with hypotheses a concrete state and operands that meet them, clause by clause, at the ends of the ranges. -/
namespace Sys2Proof.Tests

open Sys2Proof.Machine

/-! ### A small state in RUN -/

/-- A set of ports by its members. -/
def setOf (l : List Port) : PortSet := .ofFn fun p => l.contains p

/-- A stored word by the positions that hold 1. -/
def ones (l : List Nat) : StoredWord := l.foldl invertPosition 0#40

/-- A request message: the kind code, the other fields of word 0 as a number, and words 1 and 2. -/
def msg (code fields w1 w2 : Nat) : Request :=
  { w0 := BitVec.ofNat 32 (code + fields), w1 := BitVec.ofNat 32 w1, w2 := BitVec.ofNat 32 w2 }

/-- The target-port field of word 0. -/
def toward (p : Port) : Nat := p.num * 2 ^ 14

/-- The control-index field of word 0. -/
def index (n : Nat) : Nat := n * 2 ^ 24

/-- A page entry with no correction history. -/
def pageEntry (st : PageState) (owner : Option Port) (r w : List Port) (mode : GuardMode) : PageEntry :=
  { state := st, owner := owner, readSet := setOf r, writeSet := setOf w, guardMode := mode, corrected := 0, weak := false }

/-- A FREE page. -/
def freePage : PageEntry := pageEntry .free none [] [] .off

/-- 256 pages: page 0 HELD by port 0, ON, port 1 writing and port 2 reading; page 1 OFFERED by port 1 to port 3; page 2
CLEARING; page 3 HELD by port 2, OFF, port 1 writing and port 0 reading; the others FREE. -/
def labPages : List PageEntry :=
  [pageEntry .held (some .p0) [.p1, .p2] [.p1] .on, pageEntry .offered (some .p1) [] [] .off, .afterColdReset,
    pageEntry .held (some .p2) [.p0, .p1] [.p1] .off] ++ List.replicate 252 freePage

/-- An ACTIVE port that holds nothing. -/
def idlePort : PortRecord := { PortRecord.inReset with state := .active }

/-- The record of READY for every port. -/
def readyRecord : NoticeRecord := { image := NoticeImage.bare 0#16 .ready, recipients := .all true }

/-- A part in RUN with 1 Mi words and four idle ports: port 1 has reserved word 5, one refresh is owed at the last row,
READY waits for every port, and the fall of PRST1 waits in the queue. -/
def lab : State :=
  { State.reset with
    pins := { nrst := true, prst := .all true },
    ports := .all idlePort,
    pageMap := { entries := labPages, offers := [{ page := 1, fromPort := .p1, toPort := .p3, timer := .running 2000 }] },
    table := { entries := [{ port := .p1, addr := 5, timer := .running 500 }], parking := .all none },
    refresh := { timer := .running 7, owed := 1, row := 8191#13 },
    clear := { queue := [2], progress := 0 },
    scrub := { position := 0, timer := .running 200, pending := false, passes := 65535#16 },
    log := { records := [readyRecord], sequence := 1#16, lost := 0, lines := .all true, asked := [] },
    control := { device := .run, items := .defaults, straps := { msize := 0#2, pen := .all true } },
    array := [(5, encode { data := 0x80000000#32, guard := false }), (6, encode { data := 1#32, guard := true })],
    pending := [.prstFalls .p1] }

/-- The same part in another device state. -/
def labIn (d : DeviceState) : State := { lab with control := { lab.control with device := d } }

/-- A port has a request in ROUTED. -/
def asking (s : State) (p : Port) (m : Request) : State :=
  s.setPort p { s.port p with current := some { msg := m, phase := .routed }, outstanding := 1 }

/-- A port's memory request has been granted and its operation begun. -/
def serving (s : State) (p : Port) (m : Request) (k : RequestKind) : State :=
  ((asking s p m).toGranted p m).beginFor p m k

/-- The operation in flight has read its word. -/
def afterReading (s : State) (a : Nat) (flips : StoredWord) : State :=
  match s.sequencer with
  | none => s
  | some o => s.endReading o a flips

/-- The next state, when there is one. -/
def after (i : Instr) (s : State) : State :=
  match exec i s with
  | .next t => t
  | .fault _ => s
  | .refused _ => s

/-- The statuses a port has been answered with, oldest first. -/
def answers (s : State) (p : Port) : List Status := (s.port p).responses.map Response.status

/-! ### Ill-formed commands -/

theorem test_wellFormed_refuses_word_out_of_range :
    (Instr.reservationLifetimeRunsOut 4194304).wellFormed = false ∧
      (Instr.reservationLifetimeRunsOut 4194303).wellFormed = true := by decide

theorem test_wellFormed_refuses_page_out_of_range :
    (Instr.offerLifetimeRunsOut 1024).wellFormed = false ∧ (Instr.offerLifetimeRunsOut 1023).wellFormed = true := by decide

theorem test_no_word_spells_a_command : decodeTableWord 0 0 = none ∧ decodeTableWord 32 1 = none := by decide

/-! ### The check code: the worked examples of chapter 1 -/

theorem test_encoding_of_four_words :
    encode { data := 0#32, guard := false } = ones [] ∧
    encode { data := 1#32, guard := false } = ones [0, 1, 2, 3] ∧
    encode { data := 1#32, guard := true } = ones [3, 4, 32, 39] ∧
    encode { data := 0x80000000#32, guard := false } = ones [2, 4, 32, 38] := by decide +kernel

theorem test_damaged_copies_of_one_word :
    decode (ones [3, 4, 32, 39]) = { cls := .clean, syndrome := 0#6, corrected := some ⟨1#32, true⟩ } ∧
    decode (ones [3, 4, 32, 39, 13]) = { cls := .single .data 13, syndrome := 13#6, corrected := some ⟨1#32, true⟩ } ∧
    decode (ones [3, 4, 32]) = { cls := .single .guard 39, syndrome := 39#6, corrected := some ⟨1#32, true⟩ } ∧
    decode (ones [3, 4, 32, 39, 0]) = { cls := .single .check 0, syndrome := 0#6, corrected := some ⟨1#32, true⟩ } ∧
    (decode (ones [3, 4, 32, 39, 13, 39])).cls = .double ∧
    ((decode (ones [3, 4, 32, 39, 13, 39])).syndrome = 42#6) := by decide +kernel

theorem test_meets_SyndromeAndParity_and_CodeCorrectsOneDetectsTwo :
    5 < 6 ∧ 0 < 40 ∧ 39 < 40 ∧ 0 ≠ 39 ∧
      decode (invertPosition (invertPosition (encode ⟨1#32, true⟩) 0) 39) =
        { cls := .double, syndrome := 39#6, corrected := none } := by decide +kernel

theorem test_meets_DecodeClassFollowsTable :
    (overallBad 0#40 = false ∧ (syndromeOf 0#40).toNat = 0) ∧
    (overallBad (ones [39]) = true ∧ (syndromeOf (ones [39])).toNat = 39) ∧
    (overallBad (ones [8, 32, 0]) = true ∧ (syndromeOf (ones [8, 32, 0])).toNat = 40) ∧
    (overallBad (ones [0, 1]) = false ∧ (syndromeOf (ones [0, 1])).toNat = 1) ∧
    (decode (encode ⟨1#32, true⟩ ^^^ ones [8, 32, 0])).cls = .multiple ∧
    (decode (encode ⟨1#32, true⟩ ^^^ ones [0, 1])).cls = .double := by decide +kernel

theorem test_meets_WriteBackRestores :
    (decode (ones [3, 4, 32, 39, 13])).cls = .single .data 13 ∧
      (decode (ones [3, 4, 32, 39, 13])).corrected = some ⟨1#32, true⟩ := by decide +kernel

/-! ### Formats -/

/-- Chapter 11: record 71 seen as an image. -/
theorem test_image_of_record_71 :
    ((NoticeRequest.corrected 245960 60 13#6 .data .scrub
        { state := .held, owner := some .p2, readSet := setOf [.p0, .p1] }).image 71#16).word2 =
      BitVec.ofNat 32 (245960 + 60 * 2 ^ 22) ∧
    ((NoticeRequest.corrected 245960 60 13#6 .data .scrub
        { state := .held, owner := some .p2, readSet := setOf [.p0, .p1] }).image 71#16).word3 =
      BitVec.ofNat 32 (71 + 1 * 2 ^ 16 + 13 * 2 ^ 20 + 0 * 2 ^ 26 + 4 * 2 ^ 29) := by decide

theorem test_meets_ResponseLayout :
    (1023 < 1024 ∧ 255 ≤ 255) ∧ 4194303 < 2 ^ 22 ∧
      (NoticeImage.word2 { NoticeImage.bare 0#16 .corrected with addr := some 4194303, page := some 1023 }) =
        0xFFFFFFFF#32 ∧
      (NoticeImage.word2 { NoticeImage.bare 0#16 .offerMade with other := some .p3, page := some 0 }) = 3#32 := by
  decide

theorem test_request_fields_at_their_bits :
    (msg 4 (1 * 2 ^ 5 + 15 * 2 ^ 7 + 2 ^ 11 + 2 ^ 12 + 2 ^ 13 + 3 * 2 ^ 14 + 255 * 2 ^ 16 + 63 * 2 ^ 24) 7 9).kind =
      some .lockedRead ∧
    (msg 4 (1 * 2 ^ 5) 0 0).guardAction = some .set ∧ (msg 4 (3 * 2 ^ 5) 0 0).guardAction = none ∧
    (msg 0 (8 * 2 ^ 7) 0 0).byteMask = 8#4 ∧ (msg 0 (3 * 2 ^ 14) 0 0).target = .p3 ∧
    (msg 0 (255 * 2 ^ 16) 0 0).tag = 255#8 ∧ (msg 0 (63 * 2 ^ 24) 0 0).controlIndex = 63 ∧
    (msg 0 0 0 0).kind = none ∧ (msg 7 0 0 0).kind = none := by decide

/-! ### Ports -/

theorem test_meets_PortChecksInOrder_bad :
    (msg 0 0 0 0).Bad ∧ (msg 1 (3 * 2 ^ 5) 0 0).Bad ∧ (msg 4 (1 * 2 ^ 5) 0 0).Bad ∧ (msg 3 0 0 0).Bad := by
  refine ⟨.inl (by decide), .inr ⟨.read, by decide, .inl (by decide)⟩, .inr ⟨.lockedRead, by decide, .inr (.inl (by decide))⟩,
    .inr ⟨.mergeWrite, by decide, .inr (.inr (by decide))⟩⟩

theorem test_meets_PortChecksInOrder :
    ¬ (msg 2 0 1048575 0).Bad ∧ ¬ (msg 8 0 256 0).Bad ∧
      (labIn .setup).control.device ≠ .run ∧ lab.control.device = .run ∧
      lab.portCheck (msg 2 0 1048575 0) = none ∧ lab.portCheck (msg 2 0 1048576 0) = some .range ∧
      lab.portCheck (msg 8 0 255 0) = none ∧ lab.portCheck (msg 8 0 256 0) = some .range ∧
      (labIn .setup).portCheck (msg 8 0 256 0) = some .notRunning ∧ (labIn .init).portCheck (msg 20 0 0 0) = none := by
  refine ⟨?_, ?_, by decide, by decide, by decide, by decide, by decide, by decide, by decide, by decide⟩
  · rintro (h | ⟨k, hk, h⟩)
    · exact absurd h (by decide)
    · have : k = .write := by
        have h2 : (msg 2 0 1048575 0).kind = some .write := by decide
        rw [h2] at hk
        exact (Option.some.inj hk).symm
      subst this
      exact absurd h (by decide)
  · rintro (h | ⟨k, hk, h⟩)
    · exact absurd h (by decide)
    · have : k = .claim := by
        have h2 : (msg 8 0 256 0).kind = some .claim := by decide
        rw [h2] at hk
        exact (Option.some.inj hk).symm
      subst this
      exact absurd h (by decide)

/-- A port serving one request with two behind it, the first of which fails its checks. -/
def queuedPort : PortRecord :=
  { idlePort with current := some { msg := msg 1 0 0 0, phase := .granted }, queue := [msg 0 0 0 0, msg 20 0 0 0],
                  outstanding := 3 }

theorem test_meets_AnswersInOrder :
    queuedPort.current = some { msg := msg 1 0 0 0, phase := .granted } ∧
    ((queuedPort.answered (plainResponse (msg 1 0 0 0) .ok)).becomeCurrent lab.portCheck).responses.map Response.status =
      [.ok, .badRequest] ∧
    ((queuedPort.answered (plainResponse (msg 1 0 0 0) .ok)).becomeCurrent lab.portCheck).current =
      some { msg := msg 20 0 0 0, phase := .routed } := by decide

/-- A port with a number of responses waiting and nothing else. -/
def waitingPort (n : Nat) : PortRecord :=
  { idlePort with responses := List.replicate n (plainResponse (msg 1 0 0 0) .ok), outstanding := n }

/-- The small part with that port at port 0. -/
def labWaiting (n : Nat) : State := lab.setPort .p0 (waitingPort n)

theorem test_meets_RequestAccepted :
    ((labWaiting 7).port .p0).Sound ∧ ((labWaiting 7).port .p0).state = .active ∧
      ((labWaiting 7).port .p0).outstanding < 8 ∧ ((labWaiting 7).port .p0).current = none ∧
      lab.portCheck (msg 1 0 0 0) = none ∧ lab.portCheck (msg 0 0 0 0) = some .badRequest ∧
      ((asking lab .p0 (msg 1 0 0 0)).port .p0).Sound ∧
      ((asking lab .p0 (msg 1 0 0 0)).port .p0).current = some { msg := msg 1 0 0 0, phase := .routed } :=
  ⟨⟨by decide, by decide, by decide, by decide⟩, by decide, by decide, by decide, by decide, by decide,
    ⟨by decide, by decide, by decide, by decide⟩, by decide⟩

/-- R86: word 5 is held by port 1. A WRITE, a MERGE-WRITE and a LOCKED-READ of it from port 0 are parked; a READ and a
COND-WRITE are not, nor port 1's own WRITE, nor a WRITE of another word. -/
theorem test_parking_of_arriving_requests :
    ([1, 2, 2 ^ 7 + 3, 4, 5].map fun w0 =>
      (after (.requestArrives .p0 (BitVec.ofNat 32 w0) 5#32 0#32) lab).table.parking.get .p0) =
        [none, some 5, some 5, some 5, none] ∧
      (after (.requestArrives .p1 2#32 5#32 0#32) lab).table.parking.get .p1 = none ∧
      (after (.requestArrives .p0 2#32 6#32 0#32) lab).table.parking.get .p0 = none ∧
      (after (.requestArrives .p0 2#32 5#32 0#32) lab).portCandidate .p0 = false ∧
      (after (.reservationLifetimeRunsOut 5) (after (.requestArrives .p0 2#32 5#32 0#32) lab)).portCandidate .p0 = true := by
  decide +kernel

theorem test_meets_ArrivalIgnoredOrOverrun :
    (State.reset.port .p0).state ≠ .active ∧ ((labWaiting 8).port .p0).state = .active ∧
      ((labWaiting 8).port .p0).outstanding = 8 ∧
      (after (.requestArrives .p0 1#32 0#32 0#32) (labWaiting 8)).log.asked = [.portOverrun .p0] := by decide

theorem test_meets_ArrivalAndDelivery :
    ((labWaiting 8).port .p0).Sound ∧ ((labWaiting 8).port .p0).outstanding = 8 ∧
      ((labWaiting 7).port .p0).outstanding < 8 ∧
      ((labWaiting 8).port .p0).linkUp = false ∧ ((labWaiting 8).port .p0).responses ≠ [] ∧
      ((after (.responseDelivered .p0) (after (.requestArrives .p0 1#32 0#32 0#32) (labWaiting 8))).port .p0).outstanding = 7 :=
  ⟨⟨by decide, by decide, by decide, by decide⟩, by decide, by decide, by decide, by decide, by decide⟩

theorem test_meets_MessagesDelivered :
    ((labWaiting 1).port .p0).linkUp = false ∧
      ((labWaiting 1).port .p0).responses = plainResponse (msg 1 0 0 0) .ok :: [] ∧
      (lab.port .p0).responses = [] ∧
      ((after (.prstRises .p0) (lab.setPort .p0 .inReset)).port .p0).linkUp = true := by decide

/-! ### Resets -/

theorem test_meets_ColdResetValues :
    lab.ArraySound ∧
      (afterReading (serving lab .p0 (msg 1 0 6 0) .read) 6 0#40).sequencer.map (fun o => o.phase) = some .reading ∧
      (afterReading (serving lab .p0 (msg 1 0 6 0) .read) 6 (ones [13])).sequencer.map
        (fun o => (o.phase, o.target)) = some (.writing, .word 6) := by
  refine ⟨?_, ?_, ?_⟩
  · unfold State.ArraySound
    decide +kernel
  · decide +kernel
  · decide +kernel

theorem test_meets_RiseBuildsMap :
    lab.pins.nrst = true ∧ State.reset.pins.nrst = false ∧ State.reset.ColdResetSound ∧
      (setOf [.p0]).get .p0 = true ∧ (setOf [.p0]).get .p1 = false ∧ State.reset.pins.prst.get .p0 = true :=
  ⟨by decide, by decide, fun _ => rfl, by decide, by decide, by decide⟩

theorem test_meets_PortReset :
    lab.pins.nrst = true ∧ (lab.port .p1).state = .active ∧
      (after (.prstFalls .p1) lab).pageMap.offers = [] ∧ (after (.prstFalls .p1) lab).table.entries = [] ∧
      ((after (.prstFalls .p1) lab).entry 1).state = .held ∧
      (after (.prstFalls .p1) lab).log.asked = [.offerCutByReset 1 .p1 .p3] := by decide +kernel

theorem test_meets_PrstChanges :
    ((lab.setPort .p0 .inReset).port .p0).state = .reset ∧ (lab.port .p0).state ≠ .reset ∧ State.reset.pins.nrst = false ∧
      ((lab.setPort .p0 .inReset).port .p0).state ≠ .active := by decide

/-- R79, first row: port 1 offered page 1 to port 3, whose reset comes before the log has taken OFFER-MADE. Port 3 is back
in ACTIVE and in no record; the owner has OFFER-LAPSED. -/
theorem test_meets_PrstChanges_with_requests_waiting :
    let offered := lab.setLog { lab.log with asked := [.offerMade 1 .p1 .p3] }
    let fallen := after (.prstFalls .p3) offered
    let back := after (.prstRises .p3) fallen
    fallen.log.asked = .offerMade 1 .p1 .p3 :: [.offerCutByReset 1 .p3 .p1] ∧ (fallen.port .p3).state = .reset ∧
      back.isActive .p3 = true ∧ back.log.asked = [] ∧
      back.log.records.map (fun r => (r.image.kind, r.recipients)) =
        [(.ready, setOf [.p0, .p1, .p2]), (.offerLapsed, setOf [.p1])] ∧
      back = after (.prstRises .p3) (after (.noticeRecordCreate .pageMap) fallen) := by decide +kernel

/-- A part with port 0 in RESET whose notice log is sound and has a request waiting. -/
def labWaitingInReset : State :=
  (lab.setPort .p0 .inReset).setLog { NoticeLog.afterColdReset with asked := [.refreshOverrun] }

theorem test_meets_PrstChanges_with_a_sound_log :
    labWaitingInReset.pins.nrst = true ∧ (labWaitingInReset.port .p0).state = .reset ∧ labWaitingInReset.LogSound ∧
      (after (.prstRises .p0) labWaitingInReset).log.records.map (fun r => (r.image.kind, r.recipients)) =
        [(.refreshOverrun, setOf [.p1, .p2, .p3])] :=
  ⟨by decide, by decide, ⟨by decide, by decide, by decide, fun _ h => (by cases h), fun p => (by cases p <;> rfl), by decide⟩,
    by decide +kernel⟩

/-! ### Grants -/

/-- Chapter 3: page 7, HELD by port 2, ON, read set 0, 1 and 3, write set 1. -/
def page7 : PageEntry := pageEntry .held (some .p2) [.p0, .p1, .p3] [.p1] .on

/-- Chapter 3: page 9, HELD by port 2, OFF, empty sets. -/
def page9 : PageEntry := pageEntry .held (some .p2) [] [] .off

theorem test_access_checks_on_two_pages :
    accessCheck page7 .p0 .read .keep = none ∧ accessCheck page7 .p0 .write .keep = some .noAccess ∧
    accessCheck page7 .p0 .lockedRead .keep = some .noAccess ∧ accessCheck page7 .p1 .write .keep = none ∧
    accessCheck page7 .p1 .write .set = some .notOwner ∧ accessCheck page7 .p1 .mergeWrite .keep = none ∧
    accessCheck page7 .p1 .lockedRead .keep = none ∧ accessCheck page7 .p2 .condWrite .set = none ∧
    accessCheck page9 .p2 .write .clear = some .guardOff ∧ accessCheck page9 .p2 .write .keep = none ∧
    accessCheck freePage .p0 .read .keep = some .noAccess := by decide

theorem test_meets_RightsFollowEntry :
    page7.state = .held ∧ page7.owner = some .p2 ∧ page7.writeSet.get .p1 = true ∧ page7.readSet.get .p3 = true ∧
      page7.writeSet.get .p3 = false ∧ page7.owner ≠ some .p3 ∧ page9.readSet.get .p0 = false ∧
      freePage.state = .free ∧ page7.guardMode = .on ∧ GuardAction.set ≠ .keep ∧
      judgeOwner page7 .p2 = none ∧ judgeWithdraw (lab.entry 1) .p1 = none ∧
      ({ port := .p2, msg := msg 2 0 0 0, kind := .write, guardMode := .on, isOwner := true } : PortTerms).isOwner = true := by
  decide

theorem test_meets_AccessCheckSteps :
    RequestKind.usesGuardAction .write = true ∧ (msg 2 (2 * 2 ^ 5) 0 0).guardAction = some .clear := by decide

/-- The terms of a WRITE on an ON page from its owner. -/
def ownerWrite (action : Nat) : PortTerms :=
  { port := .p0, msg := msg 2 (action * 2 ^ 5) 5 7, kind := .write, guardMode := .on, isOwner := true }

theorem test_meets_OperationKindAtGrant :
    accessCheck page7 .p2 .write .set = none ∧ GuardAction.set ≠ .keep ∧ (msg 1 (1 * 2 ^ 5) 0 0).kind = some .read ∧
      (msg 1 (1 * 2 ^ 5) 0 0).guardAction = some .set ∧ (operationFor (ownerWrite 1)).kind = .store ∧
      (operationFor (ownerWrite 0)).kind = .checkedStore := by decide

theorem test_meets_GrantsBegin :
    (∀ x ∈ [(1, RequestKind.read), (2, .write), (3, .mergeWrite)],
      (asking lab .p0 (msg x.1 (2 ^ 7) 6 0)).arbiterChoice = some (.port .p0) ∧
      (asking lab .p0 (msg x.1 (2 ^ 7) 6 0)).Routed .p0 (msg x.1 (2 ^ 7) 6 0) x.2 ∧
      accessCheck (lab.entry (pageOf 6)) .p0 x.2 ((msg x.1 (2 ^ 7) 6 0).judgedAction x.2) = none) := by decide +kernel

theorem test_meets_GrantsRefused :
    (∀ x ∈ [(1, RequestKind.read), (2, .write), (3, .mergeWrite), (4, .lockedRead), (5, .condWrite)],
      (asking lab .p0 (msg x.1 (2 ^ 7) 1048575 0)).arbiterChoice = some (.port .p0) ∧
      (asking lab .p0 (msg x.1 (2 ^ 7) 1048575 0)).Routed .p0 (msg x.1 (2 ^ 7) 1048575 0) x.2 ∧
      accessCheck (lab.entry (pageOf 1048575)) .p0 x.2 ((msg x.1 (2 ^ 7) 1048575 0).judgedAction x.2) =
        some .noAccess) := by decide +kernel

/-- The small part with two reservations of port 1. -/
def labTwoHeld : State :=
  lab.setReservations [{ port := .p1, addr := 5, timer := .running 500 }, { port := .p1, addr := 7, timer := .running 500 }]

theorem test_meets_LockedReadAtGrant :
    (asking lab .p1 (msg 4 0 6 0)).arbiterChoice = some (.port .p1) ∧
      (asking lab .p1 (msg 4 0 6 0)).Routed .p1 (msg 4 0 6 0) .lockedRead ∧
      accessCheck (lab.entry (pageOf 6)) .p1 .lockedRead ((msg 4 0 6 0).judgedAction .lockedRead) = none ∧
      (reservationsOf lab.table.entries .p1).length < 2 ∧ heldBy labTwoHeld.table.entries .p1 7 = true ∧
      2 ≤ (reservationsOf labTwoHeld.table.entries .p1).length ∧ heldBy labTwoHeld.table.entries .p1 6 = false ∧
      (asking labTwoHeld .p1 (msg 4 0 6 0)).arbiterChoice = some (.port .p1) := by decide +kernel

theorem test_meets_CondWriteAtGrant :
    (asking lab .p1 (msg 5 0 5 0)).arbiterChoice = some (.port .p1) ∧
      (asking lab .p1 (msg 5 0 5 0)).Routed .p1 (msg 5 0 5 0) .condWrite ∧
      accessCheck (lab.entry (pageOf 5)) .p1 .condWrite ((msg 5 0 5 0).judgedAction .condWrite) = none ∧
      heldBy lab.table.entries .p1 5 = true ∧ heldBy lab.table.entries .p1 6 = false := by decide +kernel

/-- The small part with a READ waiting at port 1, of the priority class, and one at port 2, of the normal class. -/
def labBusy (streak share owed : Nat) : State :=
  let s := asking (asking lab .p1 (msg 1 0 5 0)) .p2 (msg 1 0 5 0)
  { s with
    control := { s.control with items := { s.control.items with priority := setOf [.p1] } },
    arbiter := { s.arbiter with streak := streak, clearShare := share }, refresh := { s.refresh with owed := owed } }

theorem test_grant_order_under_load :
    (labBusy 0 0 6).arbiterChoice = some .refreshController ∧ (labBusy 0 16 5).arbiterChoice = some .clearEngine ∧
    (labBusy 7 15 5).arbiterChoice = some (.port .p1) ∧ (labBusy 8 15 5).arbiterChoice = some (.port .p2) ∧
    (after (.read .p1) (labBusy 7 15 5)).arbiter.streak = 8 ∧ (after (.read .p1) (labBusy 7 15 5)).arbiter.clearShare = 16 ∧
    (after (.read .p2) (labBusy 8 15 5)).arbiter.streak = 0 := by decide +kernel

theorem test_meets_GrantOrder :
    (serving lab .p0 (msg 1 0 5 0) .read).sequencer ≠ none ∧ lab.sequencer = none ∧
      (labBusy 0 0 6).Stands .refreshController ∧ lab.Stands .clearEngine ∧
      (labBusy 0 0 1).Stands (.port .p1) ∧ (labBusy 0 0 1).isPriority .p1 = true ∧
      (labBusy 0 0 1).Stands (.port .p2) ∧ (labBusy 0 0 1).isPriority .p2 = false ∧
      FirstAfter .p3 .p1 (fun q => q = .p1) ∧ (∀ q, ¬ lab.Stands (.port q)) ∧
      { lab with clear := .empty }.arbiterChoice = some .refreshController ∧
      { lab with clear := .empty, refresh := { lab.refresh with owed := 0 },
                 scrub := { lab.scrub with pending := true } }.arbiterChoice = some .scrubEngine := by
  refine ⟨by decide, by decide, by unfold State.Stands; decide, by unfold State.Stands; decide,
    ⟨by decide, by decide, msg 1 0 5 0, .read, by decide, by decide⟩, by decide,
    ⟨by decide, by decide, msg 1 0 5 0, .read, by decide, by decide⟩, by decide,
    ⟨rfl, by rintro q rfl; decide⟩, ?_, by decide, by decide⟩
  rintro q ⟨_, _, m, k, ⟨h, _⟩, _⟩
  cases q <;> exact absurd h (by simp [lab, State.port, PerPort.get, PerPort.all, idlePort, PortRecord.inReset])

theorem test_meets_PriorityStreak_and_ClearShare :
    (labBusy 8 15 5).arbiterChoice = some (.port .p2) ∧ (labBusy 8 15 5).Routed .p2 (msg 1 0 5 0) .read ∧
      (labBusy 8 15 5).clear.queue ≠ [] ∧ (labBusy 8 15 5).arbiter.streak = 8 ∧
      (labBusy 7 15 5).arbiterChoice = some (.port .p1) ∧ (labBusy 7 15 5).Routed .p1 (msg 1 0 5 0) .read ∧
      (labBusy 0 16 5).sequencer = none ∧ (labBusy 0 16 5).refresh.owed < 6 ∧
      16 ≤ (labBusy 0 16 5).arbiter.clearShare := by decide

theorem test_meets_EngineGrants :
    (labBusy 0 0 6).arbiterChoice = some .refreshController ∧ lab.arbiterChoice = some .clearEngine ∧
      lab.clear.queue = 2 :: [] ∧
      (after .refreshGrant (labBusy 0 0 6)).sequencer.map (fun o => o.target) = some (.row 8191#13) ∧
      (after .clearGrant lab).sequencer.map (fun o => o.target) = some (.word 8192) := by decide +kernel

/-! ### The sequencer -/

/-- A READ of word 6 in flight, its word read with some positions changed. -/
def labRead (flips : StoredWord) : State := afterReading (serving lab .p0 (msg 1 0 6 0) .read) 6 flips

theorem test_meets_ReadingEnds :
    (serving lab .p0 (msg 1 0 6 0) .read).sequencer.map (fun o => (o.phase, o.decoded, o.target)) =
      some (.reading, none, .word 6) ∧ lab.ArraySound := by
  refine ⟨by decide, ?_⟩
  unfold State.ArraySound
  decide +kernel

/-- A clean read of data 1 with guard 1. -/
def cleanRead : DecodeResult := { cls := .clean, syndrome := 0#6, corrected := some ⟨1#32, true⟩ }

/-- An uncorrectable read. -/
def lostRead : DecodeResult := { cls := .double, syndrome := 42#6, corrected := none }

/-- The operation of a MERGE-WRITE on an ON page, before its word is read. -/
def mergeBy (isOwner : Bool) : Operation :=
  operationFor { port := .p1, msg := msg 3 (2 ^ 8) 6 0xABCD, kind := .mergeWrite, guardMode := .on, isOwner := isOwner }

theorem test_meets_SettledByKind :
    cleanRead.corrected = some ⟨1#32, true⟩ ∧ lostRead.corrected = none ∧ (mergeBy true).kind = .merge ∧
      settle true (mergeBy true) cleanRead = some { data := 0xAB01#32, guard := true } ∧
      settle true (mergeBy true) lostRead = none := by decide

theorem test_meets_GuardCheck :
    (mergeBy false).kind = .merge ∧ settle true (mergeBy false) cleanRead = none ∧
      (operationFor (ownerWrite 1)).kind = .store ∧ (operationFor (ownerWrite 2)).kind = .store ∧
      (operationFor (ownerWrite 1)).settled = some ⟨7#32, true⟩ ∧
      (operationFor (ownerWrite 2)).settled = some ⟨7#32, false⟩ ∧
      { mergeBy false with kind := .read }.kind = .read ∧
      settle true { mergeBy false with kind := .read } cleanRead = none := by decide

theorem test_meets_ResponseTable :
    (operationFor (ownerWrite 1)).decoded = none ∧ ((mergeBy true).afterRead lostRead none).decoded = some lostRead ∧
      (labRead 0#40).sequencer.map (fun o => o.decoded) = some (some cleanRead) := by decide +kernel

theorem test_meets_PortOperationCompletes :
    (∀ o ∈ (labRead 0#40).sequencer, (labRead 0#40).InFlight o .read ∧ o.target = .word 6) ∧
      (labRead 0#40).sequencer.isSome = true ∧
      (∀ o ∈ (serving lab .p0 (msg 2 (2 ^ 5) 6 0) .write).sequencer,
        (serving lab .p0 (msg 2 (2 ^ 5) 6 0) .write).InFlight o .store) ∧
      (∀ o ∈ (afterReading (serving lab .p0 (msg 2 0 6 0) .write) 6 0#40).sequencer,
        (afterReading (serving lab .p0 (msg 2 0 6 0) .write) 6 0#40).InFlight o .checkedStore) ∧
      (∀ o ∈ (afterReading (serving lab .p1 (msg 3 (2 ^ 7) 6 0) .mergeWrite) 6 0#40).sequencer,
        (afterReading (serving lab .p1 (msg 3 (2 ^ 7) 6 0) .mergeWrite) 6 0#40).InFlight o .merge) ∧
      pageOf 6 < lab.pageMap.entries.length := by decide +kernel

/-- Chapter 6: a MERGE-WRITE from a port that is not the owner, on a word whose guard is 1, is GUARDED. -/
theorem test_guarded_merge :
    answers (after .mergeCompletes (afterReading (serving lab .p1 (msg 3 (2 ^ 7) 6 0) .mergeWrite) 6 (ones [39]))) .p1 =
      [.guarded] ∧
    (after .mergeCompletes (afterReading (serving lab .p1 (msg 3 (2 ^ 7) 6 0) .mergeWrite) 6 (ones [39]))).log.asked =
      [.corrected 6 0 39#6 .guard (.port .p1) { state := .held, owner := some .p0, readSet := setOf [.p1, .p2] }] := by
  decide +kernel

/-- Chapter 11: a MERGE of an uncorrectable word is answered DATA-LOST and writes nothing. -/
theorem test_data_lost_merge :
    answers (after .mergeCompletes (afterReading (serving lab .p0 (msg 3 (2 ^ 8) 6 0) .mergeWrite) 6 (ones [13, 39]))) .p0 =
      [.dataLost] ∧
    (after .mergeCompletes (afterReading (serving lab .p0 (msg 3 (2 ^ 8) 6 0) .mergeWrite) 6 (ones [13, 39]))).array.read 6 =
      ones [3, 4, 32, 13] := by
  decide +kernel

/-- A LOCKED-READ of port 1 in flight, its word read. -/
def labLocked (a : Nat) (flips : StoredWord) : State := afterReading (serving lab .p1 (msg 4 0 a 0) .lockedRead) a flips

theorem test_meets_LockedReadReservation :
    (∀ o ∈ (labLocked 6 0#40).sequencer, (labLocked 6 0#40).InFlight o .read ∧ o.decoded = some cleanRead) ∧
      (labLocked 6 0#40).sequencer.isSome = true ∧ heldBy lab.table.entries .p1 6 = false ∧
      heldBy lab.table.entries .p1 5 = true ∧ (lab.entry 0).mayWrite .p1 = true ∧
      (after .readOpCompletes (labLocked 6 0#40)).table.entries.map Reservation.addr = [5, 6] ∧
      (after .readOpCompletes (labLocked 5 0#40)).table.entries.map Reservation.addr = [5] := by decide +kernel

/-- The small part with a REFRESH in flight. -/
def labRefresh (owed : Nat) : State :=
  { lab with sequencer := some lab.refreshOperation, refresh := { lab.refresh with owed := owed } }

theorem test_meets_RefreshCompletes :
    (labRefresh 8).InFlight lab.refreshOperation .refresh ∧ 1 ≤ (labRefresh 1).refresh.owed ∧
      (labRefresh 7).refresh.owed ≤ 7 ∧ (labRefresh 8).refresh.owed = 8 ∧ (labRefresh 8).refresh.timer = .running 7 ∧
      (after .refreshCompletes (labRefresh 1)).refresh = { timer := .running 7, owed := 0, row := 0#13 } := by decide +kernel

/-- The small part, in a device state, with a CLEAR of the next word of page 2 in flight. -/
def labClear (d : DeviceState) (progress : Nat) : State :=
  let s := { labIn d with clear := { queue := [2], progress := progress } }
  { s with sequencer := some s.clearOperation }

theorem test_meets_ClearCompletes :
    (∀ o ∈ (labClear .run 4094).sequencer, (labClear .run 4094).InFlight o .clear ∧ o.target = .word 12286) ∧
      (labClear .init 4095).clear.progress = 4095 ∧ (labClear .init 4095).clear.queue = 2 :: [] ∧
      2 < lab.pageMap.entries.length ∧
      (after .clearCompletes (labClear .init 4095)).control.device = .setup ∧
      (after .clearCompletes (labClear .init 4095)).log.asked = [.ready] ∧
      ((after .clearCompletes (labClear .run 4095)).entry 2).state = .free := by decide +kernel

/-- R132, R167: an overrun of INIT that waits when INIT ends is recorded before READY. -/
theorem test_meets_ClearCompletes_with_requests_waiting :
    let waiting := (labClear .init 4095).setLog { NoticeLog.afterColdReset with asked := .refreshOverrun :: [] }
    let ready := after (.noticeRecordCreate .controlBlock) (after .clearCompletes waiting)
    (after .clearCompletes waiting).log.asked = [.ready] ∧
      ready.log.records.map (fun r => (r.image.kind, r.image.sequence)) = [(.refreshOverrun, 0#16), (.ready, 1#16)] := by
  decide +kernel

/-- The small part with a SCRUB of a word in flight, its word read. -/
def labScrub (position : Nat) (flips : StoredWord) : State :=
  let s := { lab with scrub := { lab.scrub with position := position, pending := true } }
  afterReading { s with sequencer := some s.scrubOperation } position flips

theorem test_meets_ScrubCompletes :
    (∀ o ∈ (labScrub 1048575 0#40).sequencer, (labScrub 1048575 0#40).InFlight o .scrub ∧ o.target = .word 1048575) ∧
      (labScrub 1048575 0#40).scrub.position + 1 = lab.size ∧ (labScrub 6 0#40).scrub.position + 1 < lab.size ∧
      pageOf 1048575 < lab.pageMap.entries.length ∧
      (after .scrubCompletes (labScrub 1048575 0#40)).scrub.passes = 0#16 ∧
      (after .scrubCompletes (labScrub 6 (ones [13]))).array.read 6 = encode ⟨1#32, true⟩ ∧
      ((after .scrubCompletes (labScrub 6 (ones [13]))).entry 0).corrected = 1 := by decide +kernel

/-! ### Timers -/

theorem test_meets_IntervalsRunOut :
    lab.refresh.timer = .running 7 ∧ State.reset.refresh.timer = .stopped ∧ lab.scrub.timer = .running 200 ∧
      State.reset.scrub.timer = .stopped ∧ (labRefresh 7).refresh.owed < 8 ∧ 8 ≤ (labRefresh 8).refresh.owed ∧
      (after .refreshIntervalRunsOut (labRefresh 8)).log.asked = [.refreshOverrun] := by decide

theorem test_meets_LifetimesRunOut :
    (∃ e ∈ lab.table.entries, e.addr = 5) ∧ (∀ e ∈ lab.table.entries, e.addr ≠ 6) ∧ lab.offerOf 0 = none ∧
      lab.offerOf 1 = some { page := 1, fromPort := .p1, toPort := .p3, timer := .running 2000 } ∧
      (lab.entry 1).state = .offered := by decide

/-! ### Requests taken by their owner block -/

theorem test_meets_UnlockTaken :
    (asking lab .p1 (msg 6 0 5 0)).Routed .p1 (msg 6 0 5 0) .unlock ∧ heldBy lab.table.entries .p1 5 = true ∧
      heldBy lab.table.entries .p1 6 = false ∧ answers (after (.unlock .p1) (asking lab .p1 (msg 6 0 5 0))) .p1 = [.ok] := by
  decide

theorem test_meets_ClaimTaken :
    (asking lab .p3 (msg 8 (2 ^ 13) 255 0)).Routed .p3 (msg 8 (2 ^ 13) 255 0) .claim ∧ (lab.entry 255).state = .free ∧
      (lab.entry 0).state = .held ∧ (lab.entry 1).state = .offered ∧ (lab.entry 2).state = .clearing ∧
      ((after (.claim .p3) (asking lab .p3 (msg 8 (2 ^ 13) 255 0))).entry 255) = pageEntry .held (some .p3) [] [] .on := by
  decide +kernel

/-- Chapter 4: a downgrade drops the target's reservation on the page. -/
theorem test_meets_GrantTaken :
    (asking lab .p0 (msg 9 (toward .p1) 0 0)).Routed .p0 (msg 9 (toward .p1) 0 0) .grant ∧
      (lab.entry 0).ownedBy .p0 = true ∧ (lab.entry 0).ownedBy .p1 = false ∧ (lab.entry 1).ownedBy .p1 = true ∧
      (lab.entry 1).state = .offered ∧ (lab.entry 0).state = .held ∧ (lab.port .p1).state = .active ∧
      ((lab.setPort .p3 .inReset).port .p3).state ≠ .active ∧ (msg 9 (toward .p1) 0 0).target ≠ .p0 ∧
      (msg 9 (toward .p1) 0 0).rightWrite = false ∧ (lab.entry 0).writeSet.get .p1 = true ∧
      (after (.grant .p0) (asking lab .p0 (msg 9 (toward .p1) 0 0))).table.entries = [] ∧
      (after (.grant .p0) (asking lab .p0 (msg 9 (2 ^ 11 + toward .p3) 0 0))).entry 0 =
        pageEntry .held (some .p0) [.p1, .p2, .p3] [.p1, .p3] .on := by
  decide +kernel

theorem test_meets_RevokeTaken :
    (asking lab .p0 (msg 10 (toward .p1) 0 0)).Routed .p0 (msg 10 (toward .p1) 0 0) .revoke ∧
      (lab.port .p1).state ≠ .absent ∧ ((lab.setPort .p3 { idlePort with state := .absent }).port .p3).state = .absent ∧
      (after (.revoke .p0) (asking lab .p0 (msg 10 (toward .p1) 0 0))).table.entries = [] ∧
      (after (.revoke .p0) (asking lab .p0 (msg 10 (toward .p1) 0 0))).entry 0 =
        pageEntry .held (some .p0) [.p2] [] .on := by
  decide +kernel

theorem test_meets_ReleaseTaken :
    (asking lab .p0 (msg 14 (2 ^ 12) 0 0)).Routed .p0 (msg 14 (2 ^ 12) 0 0) .release ∧
      (asking lab .p0 (msg 14 0 0 0)).Routed .p0 (msg 14 0 0 0) .release ∧
      (msg 14 (2 ^ 12) 0 0).clearOption = true ∧ (msg 14 0 0 0).clearOption = false ∧
      (after (.release .p0) (asking lab .p0 (msg 14 (2 ^ 12) 0 0))).clear.queue = [2, 0] ∧
      (after (.release .p0) (asking lab .p0 (msg 14 0 0 0))).entry 0 = freePage := by decide +kernel

/-- The small part with a full offer list. -/
def labFullOffers : State := lab.setOffers (List.replicate 8 lab.pageMap.offers).flatten

theorem test_meets_OfferTaken :
    (asking lab .p0 (msg 11 (toward .p1) 0 0)).Routed .p0 (msg 11 (toward .p1) 0 0) .offer ∧
      lab.pageMap.offers.length < 8 ∧ 8 ≤ labFullOffers.pageMap.offers.length ∧
      answers (after (.offer .p0) (asking labFullOffers .p0 (msg 11 (toward .p1) 0 0))) .p0 = [.noRoom] ∧
      (after (.offer .p0) (asking lab .p0 (msg 11 (toward .p1) 0 0))).log.asked = [.offerMade 0 .p0 .p1] := by decide +kernel

theorem test_meets_AcceptTaken :
    (asking lab .p3 (msg 12 0 1 0)).Routed .p3 (msg 12 0 1 0) .accept ∧
      lab.offerOf 1 = some { page := 1, fromPort := .p1, toPort := .p3, timer := .running 2000 } ∧
      (lab.entry 1).state = .offered ∧ (lab.entry 0).state ≠ .offered ∧
      (after (.accept .p3) (asking lab .p3 (msg 12 0 1 0))).entry 1 = pageEntry .held (some .p3) [] [] .off ∧
      answers (after (.accept .p0) (asking lab .p0 (msg 12 0 1 0))) .p0 = [.noOffer] := by decide +kernel

theorem test_meets_WithdrawTaken :
    (asking lab .p1 (msg 13 0 1 0)).Routed .p1 (msg 13 0 1 0) .withdraw ∧ (lab.entry 1).ownedBy .p1 = true ∧
      (lab.entry 1).state = .offered ∧ (lab.entry 1).ownedBy .p3 = false ∧ (lab.entry 0).ownedBy .p0 = true ∧
      (lab.entry 0).state = .held ∧
      (after (.withdraw .p1) (asking (asking lab .p1 (msg 13 0 1 0)) .p3 (msg 12 0 1 0))).Routed .p3 (msg 12 0 1 0) .accept := by
  decide +kernel

/-- Chapter 3: a PAGE-QUERY of page 7. -/
theorem test_meets_PageQueryTaken :
    (asking lab .p3 (msg 15 0 0 0)).Routed .p3 (msg 15 0 0 0) .pageQuery ∧
      ((after (.pageQuery .p3) (asking lab .p3 (msg 15 0 0 0))).port .p3).responses.map (fun r => r.message.w2) =
        [BitVec.ofNat 32 (0 + 1 * 2 ^ 10 + 1 * 2 ^ 12 + 1 * 2 ^ 15 + 6 * 2 ^ 16 + 2 * 2 ^ 20)] := by decide +kernel

theorem test_meets_FetchNoticeTaken :
    (asking lab .p0 (msg 16 0 0 0)).Routed .p0 (msg 16 0 0 0) .fetchNotice ∧
      lab.log.records = [] ++ readyRecord :: [] ∧ readyRecord.recipients.get .p0 = true ∧
      (∀ r ∈ State.reset.log.records, r.recipients.get .p0 = false) ∧
      (after (.fetchNotice .p0) (asking lab .p0 (msg 16 0 0 0))).log.lines = setOf [.p1, .p2, .p3] := by decide

theorem test_meets_CtlReadTaken :
    (asking lab .p0 (msg 20 (index 47) 0 0)).Routed .p0 (msg 20 (index 47) 0 0) .ctlRead ∧
      (msg 20 (index 47) 0 0).controlIndex = 47 ∧ (msg 20 (index 48) 0 0).controlIndex = 48 ∧
      (lab.port .p0).outstanding ≤ 8 ∧ lab.refresh.owed ≤ 8 ∧ lab.clear.queue.length ≤ 1024 ∧
      lab.clear.progress < 4096 ∧
      ((after (.ctlRead .p0) (asking lab .p0 (msg 20 (index 40) 0 0))).port .p0).responses.map Response.data =
        [some (BitVec.ofNat 32 (5 + 1 * 2 ^ 24 + 2 ^ 31))] := by decide +kernel

theorem test_meets_CtlWriteTaken :
    (asking (labIn .setup) .p0 (msg 21 (index 8) 0 31)).Routed .p0 (msg 21 (index 8) 0 31) .ctlWrite ∧
      (labIn .init).control.device = .init ∧ lab.control.device = .run ∧
      (msg 21 (index 19) 0 0).controlIndex = 19 ∧ (msg 21 (index 31) 0 0).controlIndex = 31 ∧
      (after (.ctlWrite .p0) (asking (labIn .setup) .p0 (msg 21 (index 8) 0 31))).control.items.refreshInterval = 31 ∧
      answers (after (.ctlWrite .p0) (asking (labIn .setup) .p0 (msg 21 (index 8) 0 32))) .p0 = [.badValue] ∧
      answers (after (.lostCount .p0) (asking lab .p0 (msg 21 (index 31) 0 0))) .p0 = [.ok] ∧
      answers (after (.ctlWrite .p0) (asking lab .p0 (msg 21 (index 31) 0 1))) .p0 = [.badValue] := by decide +kernel

theorem test_meets_StartTaken :
    (asking (labIn .setup) .p0 (msg 22 0 0 0)).Routed .p0 (msg 22 0 0 0) .start ∧
      (labIn .init).control.device = .init ∧ lab.control.device = .run ∧ (labIn .setup).control.items.scrubInterval ≠ 0 ∧
      { ConfigItems.defaults with scrubInterval := 0 }.scrubInterval = 0 ∧
      (after (.start .p0) (asking (labIn .setup) .p0 (msg 22 0 0 0))).control.device = .run := by decide

/-! ### The notice log -/

/-- The small part with two requests handed to the log, and a number of records held. -/
def labAsked (held : Nat) : State :=
  lab.setLog { lab.log with records := List.replicate held readyRecord, asked := [.portOverrun .p0, .started .p0] }

theorem test_meets_NoticeRecordCreated :
    (labAsked 16).log.asked = [.portOverrun .p0] ++ NoticeRequest.started .p0 :: [] ∧
      (NoticeRequest.started .p0).asker = .controlBlock ∧ (NoticeRequest.portOverrun .p0).asker ≠ .controlBlock ∧
      ((NoticeRequest.started .p0).recipients lab.activePorts).get .p3 = true ∧
      (∀ p ∈ Port.all, ((NoticeRequest.portOverrun .p0).recipients State.reset.activePorts).get p = false) ∧
      (labAsked 15).log.records.length < 16 ∧ 16 ≤ (labAsked 16).log.records.length ∧
      (after (.noticeRecordCreate .controlBlock) (labAsked 16)).log.lost = 1 ∧
      (∀ x ∈ (labAsked 16).log.asked, x.asker ≠ .pageMap) := by decide

/-- R164: an overrun handed over after READY is not taken before it. -/
theorem test_meets_NoticeRecordCreated_behind_ready :
    let s := lab.setLog { NoticeLog.afterColdReset with asked := [.ready] ++ NoticeRequest.refreshOverrun :: [] }
    s.log.asked.head? = some .ready ∧ after (.noticeRecordCreate .refreshController) s = s ∧
      (after (.noticeRecordCreate .controlBlock) s).log.asked = [.refreshOverrun] := by decide +kernel

/-! ### Every step -/

theorem test_meets_StepRunsTheFrontCommand :
    State.reset.pending = [] ∧ lab.pending = .prstFalls .p1 :: [] := by decide

/-- The decidable parts of the invariant at the small part, for the other parts below. -/
theorem test_lab_log_counts_array : lab.LogSound ∧ lab.CountsSound ∧ lab.ArraySound := by
  refine ⟨⟨by decide, by decide, by decide, ?_, ?_, by decide⟩, ⟨by decide, by decide, by decide⟩, ?_⟩
  · intro r _ p _
    cases p <;> rfl
  · intro p
    cases p <;> rfl
  · unfold State.ArraySound
    decide +kernel

theorem test_lab_ports : lab.PortsSound := by
  refine ⟨fun p => ?_, fun p c h => ?_⟩
  · cases p <;> exact ⟨by decide, by decide, by decide, by decide⟩
  · cases p <;> exact absurd h (by simp [lab, State.port, PerPort.get, PerPort.all, idlePort, PortRecord.inReset])

/-- The state of every page of the small part. -/
theorem test_lab_page_states (n : Nat) :
    ((lab.entry n).state = .offered ↔ n = 1) ∧ (n < 256 ∧ (lab.entry n).state = .clearing ↔ n = 2) := by
  by_cases h : n < 256
  · have key : ∀ k, k < 256 →
        ((lab.entry k).state = .offered ↔ k = 1) ∧ (k < 256 ∧ (lab.entry k).state = .clearing ↔ k = 2) := by
      decide +kernel
    exact key n h
  · have hl : lab.pageMap.entries.length = 256 := by decide +kernel
    have he : lab.entry n = .afterColdReset := by
      simp [State.entry, List.getElem?_eq_none (hl ▸ Nat.le_of_not_lt h)]
    rw [he]
    refine ⟨⟨fun h => (by cases h), fun h => (by omega)⟩, ⟨fun h => (by omega), fun h => (by omega)⟩⟩

theorem test_lab_entries : lab.EntriesSound := by
  refine ⟨fun _ => by decide +kernel, fun e he => ?_⟩
  simp only [lab, labPages, List.cons_append, List.nil_append, List.mem_cons, List.mem_replicate] at he
  rcases he with rfl | rfl | rfl | rfl | ⟨_, rfl⟩ <;>
    exact ⟨by decide, by decide, fun p => (by cases p <;> decide), fun p => (by cases p <;> decide),
      fun p => (by cases p <;> decide), by decide⟩

/-- A state that meets the whole invariant: what the premise of the statements about every step asks for. -/
theorem test_lab_meets_the_invariant : lab.Inv where
  array := test_lab_log_counts_array.2.2
  ports := test_lab_ports
  coldReset := fun h => absurd h (by decide)
  pins := fun _ p => by cases p <;> decide
  entries := test_lab_entries
  offers :=
    ⟨by decide, by decide, fun n => by
        rw [(test_lab_page_states n).1]
        simp [lab],
      by decide, by decide⟩
  reservations := ⟨fun p => (by cases p <;> decide), by decide, by decide, by decide, by decide⟩
  parking := State.parkingSound_iff.mpr fun p => by cases p <;> decide
  sequencer :=
    ⟨fun _ h => (by cases h), fun _ h => (by cases h), fun p h => (by cases p <;> exact absurd h (by decide)),
      fun p h => (by cases p <;> exact absurd h (by decide))⟩
  counts := test_lab_log_counts_array.2.1
  clear :=
    ⟨by decide, fun n => by
        have hl : lab.pageMap.entries.length = 256 := by decide +kernel
        rw [hl, (test_lab_page_states n).2]
        simp [lab],
      by decide, by decide⟩
  log := test_lab_log_counts_array.1
  items := ⟨by decide, by decide, by decide, by decide, by decide⟩
  beforeRun := ⟨fun h => absurd rfl h, fun h => (by cases h), by decide⟩
  initClear := ⟨fun h => (by cases h), fun h => (by cases h)⟩

/-- And a step from it that changes the state. -/
theorem test_meets_every_step_statement :
    lab.Inv ∧ lab.ArraySound ∧ lab.CountsSound ∧ lab.LogSound ∧ lab.PortsSound ∧
      ∃ t, step lab = .next t ∧ t.table.entries = [] :=
  ⟨test_lab_meets_the_invariant, test_lab_log_counts_array.2.2, test_lab_log_counts_array.2.1,
    test_lab_log_counts_array.1, test_lab_ports, _, rfl, rfl⟩

end Sys2Proof.Tests
end

section
/-! PROOF. The array along a step (R1, R3): every command but NRST_FALLS, READING_ENDS and the completions leaves the
array as it stands, and those write whole words to it, which keeps the canonical form (`Memory.wf_write`). -/
namespace Sys2Proof.Machine

/-! ### What an answer does to the array -/

/-- A state that a command answers holds the given array. -/
def LeavesArray (answer : Host.Outcome State Fault Refusal) (m : Memory) : Prop := ∀ t, answer = .next t → t.array = m

/-- A state that a command answers has its array in the canonical form. -/
def AnswersCanonical (answer : Host.Outcome State Fault Refusal) : Prop := ∀ t, answer = .next t → t.ArraySound

@[simp] theorem leavesArray_next (t : State) (m : Memory) : LeavesArray (.next t) m ↔ t.array = m := by
  constructor
  · exact fun h => h t rfl
  · rintro h _ ⟨⟩
    exact h

@[simp] theorem answersCanonical_next (t : State) : AnswersCanonical (.next t) ↔ t.ArraySound := by
  constructor
  · exact fun h => h t rfl
  · rintro h _ ⟨⟩
    exact h

theorem State.arraySound_of_array_eq {s t : State} (hs : s.ArraySound) (h : t.array = s.array) : t.ArraySound := by
  unfold State.ArraySound
  rw [h]
  exact hs

theorem LeavesArray.answersCanonical {answer : Host.Outcome State Fault Refusal} {s : State}
    (h : LeavesArray answer s.array) (hs : s.ArraySound) : AnswersCanonical answer :=
  fun t ht => State.arraySound_of_array_eq hs (h t ht)

/-- A command that takes one of two steps leaves the array when both do. -/
theorem leavesArray_ite {c : Prop} [Decidable c] {a b : State} {m : Memory} (ha : a.array = m) (hb : b.array = m) :
    LeavesArray (if c then .next a else .next b) m := by
  split
  · simpa using ha
  · simpa using hb

/-- A command that serves a port's request, and without one changes nothing, leaves the array when its service does
(log entry 9). -/
theorem leavesArray_serving {s : State} {found : Option Request} {f : Request → Host.Outcome State Fault Refusal}
    (h : ∀ m, LeavesArray (f m) s.array) :
    LeavesArray (match found with | none => .next s | some m => f m) s.array := by
  cases found with
  | none => simp
  | some m => exact h m

/-- A request that is refused with a status leaves the array; so a judged request leaves it when its success does
(R60, R61). -/
theorem leavesArray_judged {s t : State} {p : Port} {m : Request} {verdict : Option Status} (h : t.array = s.array) :
    LeavesArray (match verdict with | some st => .next (s.answerStatus p m st) | none => .next t) s.array := by
  cases verdict with
  | none => simpa using h
  | some st => simp

section
variable (s : State) (p : Port)

/-! ### Channels, resets and the notice log leave the array -/

@[simp] theorem State.arrive_array (m : Request) : (s.arrive p m).array = s.array := by
  unfold State.arrive
  split
  · dsimp only
    split <;> simp
  · simp

theorem execLinkUpDelivered_leavesArray : LeavesArray (execLinkUpDelivered p s) s.array := leavesArray_ite (by simp) rfl

theorem execRequestArrives_leavesArray (w0 w1 w2 : Word) : LeavesArray (execRequestArrives p w0 w1 w2 s) s.array :=
  leavesArray_ite (by simp) rfl

theorem execResponseDelivered_leavesArray : LeavesArray (execResponseDelivered p s) s.array :=
  leavesArray_ite (by simp) rfl

theorem execNrstRises_leavesArray (msize : BitVec 2) (pen : PortSet) :
    LeavesArray (execNrstRises msize pen s) s.array :=
  leavesArray_ite rfl rfl

theorem foldl_cutOffer_array (l : List OfferEntry) : (l.foldl (State.cutOffer p) s).array = s.array := by
  induction l generalizing s with
  | nil => rfl
  | cons o rest ih => rw [List.foldl_cons, ih, State.cutOffer_array]

@[simp] theorem State.portReset_array : (s.portReset p).array = s.array := by
  simp [State.portReset, State.cutOffers, foldl_cutOffer_array]

@[simp] theorem State.setPrst_array (high : Bool) : (s.setPrst p high).array = s.array := rfl

theorem execPrstFalls_leavesArray : LeavesArray (execPrstFalls p s) s.array := leavesArray_ite (by simp) (by simp)

theorem execPrstRises_leavesArray : LeavesArray (execPrstRises p s) s.array := leavesArray_ite (by simp) (by simp)

theorem execNoticeRecordCreate_leavesArray (asker : Asker) : LeavesArray (execNoticeRecordCreate asker s) s.array := by
  unfold execNoticeRecordCreate
  split <;> simp

theorem execFetchNotice_leavesArray : LeavesArray (execFetchNotice p s) s.array :=
  leavesArray_serving fun m => by split <;> simp

/-! ### Grants leave the array -/

@[simp] theorem State.grantPlain_array (m : Request) (k : RequestKind) : (s.grantPlain p m k).array = s.array := by
  unfold State.grantPlain
  dsimp only
  split <;> simp

@[simp] theorem State.grantLockedRead_array (m : Request) : (s.grantLockedRead p m).array = s.array := by
  unfold State.grantLockedRead
  dsimp only
  split
  · simp
  · split <;> simp

@[simp] theorem State.grantCondWrite_array (m : Request) : (s.grantCondWrite p m).array = s.array := by
  unfold State.grantCondWrite
  dsimp only
  split
  · simp
  · split <;> simp

theorem execRead_leavesArray : LeavesArray (execRead p s) s.array := leavesArray_serving fun m => by simp

theorem execWrite_leavesArray : LeavesArray (execWrite p s) s.array := leavesArray_serving fun m => by simp

theorem execMergeWrite_leavesArray : LeavesArray (execMergeWrite p s) s.array := leavesArray_serving fun m => by simp

theorem execLockedRead_leavesArray : LeavesArray (execLockedRead p s) s.array := leavesArray_serving fun m => by simp

theorem execCondWrite_leavesArray : LeavesArray (execCondWrite p s) s.array := leavesArray_serving fun m => by simp

theorem execRefreshGrant_leavesArray : LeavesArray (execRefreshGrant s) s.array := leavesArray_ite (by simp) rfl

theorem execClearGrant_leavesArray : LeavesArray (execClearGrant s) s.array := leavesArray_ite (by simp) rfl

theorem execScrubGrant_leavesArray : LeavesArray (execScrubGrant s) s.array := leavesArray_ite (by simp) rfl

/-! ### Timers leave the array -/

theorem execRefreshIntervalRunsOut_leavesArray : LeavesArray (execRefreshIntervalRunsOut s) s.array :=
  leavesArray_ite (by split <;> simp) rfl

theorem execScrubIntervalRunsOut_leavesArray : LeavesArray (execScrubIntervalRunsOut s) s.array :=
  leavesArray_ite (by simp) rfl

theorem execReservationLifetimeRunsOut_leavesArray (addr : Nat) :
    LeavesArray (execReservationLifetimeRunsOut addr s) s.array :=
  leavesArray_ite (by simp) rfl

theorem execOfferLifetimeRunsOut_leavesArray (page : Nat) : LeavesArray (execOfferLifetimeRunsOut page s) s.array := by
  unfold execOfferLifetimeRunsOut
  split <;> simp

/-! ### Requests taken by their owner block leave the array -/

theorem execUnlock_leavesArray : LeavesArray (execUnlock p s) s.array :=
  leavesArray_serving fun m => leavesArray_ite (by simp) (by simp)

theorem execClaim_leavesArray : LeavesArray (execClaim p s) s.array :=
  leavesArray_serving fun m => leavesArray_judged (by simp)

theorem execGrant_leavesArray : LeavesArray (execGrant p s) s.array :=
  leavesArray_serving fun m => leavesArray_judged (by simp)

theorem execRevoke_leavesArray : LeavesArray (execRevoke p s) s.array :=
  leavesArray_serving fun m => leavesArray_judged (by simp)

theorem execOffer_leavesArray : LeavesArray (execOffer p s) s.array :=
  leavesArray_serving fun m => leavesArray_judged (by simp)

theorem execAccept_leavesArray : LeavesArray (execAccept p s) s.array :=
  leavesArray_serving fun m => by split <;> simp

theorem execWithdraw_leavesArray : LeavesArray (execWithdraw p s) s.array :=
  leavesArray_serving fun m => leavesArray_judged (by simp)

theorem execRelease_leavesArray : LeavesArray (execRelease p s) s.array :=
  leavesArray_serving fun m => leavesArray_judged (by simp)

theorem execPageQuery_leavesArray : LeavesArray (execPageQuery p s) s.array := leavesArray_serving fun m => by simp

@[simp] theorem State.writeLostCount_array (m : Request) : (s.writeLostCount p m).array = s.array := by
  unfold State.writeLostCount
  split <;> simp

@[simp] theorem State.writeItem_array (m : Request) : (s.writeItem p m).array = s.array := by
  unfold State.writeItem
  split
  · simp
  · split <;> simp

theorem execCtlRead_leavesArray : LeavesArray (execCtlRead p s) s.array :=
  leavesArray_serving fun m => by split <;> simp

theorem execCtlWrite_leavesArray : LeavesArray (execCtlWrite p s) s.array := by
  refine leavesArray_serving fun m => ?_
  split
  · simp
  · exact leavesArray_ite (by simp) (by simp)

theorem execLostCount_leavesArray : LeavesArray (execLostCount p s) s.array :=
  leavesArray_serving fun m => leavesArray_ite (by simp) rfl

theorem execStart_leavesArray : LeavesArray (execStart p s) s.array :=
  leavesArray_serving fun m => by split <;> simp

end

/-! ### The commands that write the array keep it canonical -/

section
variable {s : State}

theorem State.abandonedArray_wf (hs : s.ArraySound) : s.abandonedArray.wf = true := by
  unfold State.abandonedArray
  split
  · exact hs
  · exact Memory.wf_write hs _ _

theorem State.endReading_arraySound (hs : s.ArraySound) (o : Operation) (a : Nat) (flips : StoredWord) :
    (s.endReading o a flips).ArraySound :=
  Memory.wf_write hs _ _

theorem State.landWrite_arraySound (hs : s.ArraySound) (o : Operation) : (s.landWrite o).ArraySound := by
  unfold State.landWrite
  split
  · exact Memory.wf_write hs _ _
  · exact hs
  · exact hs

/-- Of a completion only the landing of its write touches the array (R124). -/
@[simp] theorem State.complete_array (o : Operation) : (s.complete o).array = (s.landWrite o).array := by
  simp [State.complete]

theorem State.complete_arraySound (hs : s.ArraySound) (o : Operation) : (s.complete o).ArraySound :=
  State.arraySound_of_array_eq (s.landWrite_arraySound hs o) (State.complete_array o)

theorem State.finishPage_array (n : Nat) (rest : List Nat) : (s.finishPage n rest).array = s.array := by
  unfold State.finishPage
  dsimp only
  split <;> simp

theorem State.advanceClear_array : s.advanceClear.array = s.array := by
  unfold State.advanceClear
  split
  · rfl
  · split
    · simp
    · exact State.finishPage_array _ _

theorem execNrstFalls_canonical (hs : s.ArraySound) : AnswersCanonical (execNrstFalls s) :=
  (answersCanonical_next _).mpr (State.abandonedArray_wf hs)

theorem execReadingEnds_canonical (hs : s.ArraySound) (flips : StoredWord) :
    AnswersCanonical (execReadingEnds flips s) := by
  unfold execReadingEnds
  split
  · simpa using hs
  · split
    · simpa using hs
    · simpa using s.endReading_arraySound hs _ _ flips

/-- A completion keeps the array canonical when the engine that takes it afterwards leaves the array. -/
theorem answersCanonical_completion (hs : s.ArraySound) (k : OpKind) (taken : State → State)
    (leaves : ∀ c, (taken c).array = c.array) :
    AnswersCanonical (match s.completing k with | none => .next s | some o => .next (taken (s.complete o))) := by
  cases s.completing k with
  | none => simpa using hs
  | some o => simpa using State.arraySound_of_array_eq (State.complete_arraySound hs o) (leaves _)

theorem execReadOpCompletes_canonical (hs : s.ArraySound) : AnswersCanonical (execReadOpCompletes s) :=
  answersCanonical_completion hs .read id fun _ => rfl

theorem execStoreCompletes_canonical (hs : s.ArraySound) : AnswersCanonical (execStoreCompletes s) :=
  answersCanonical_completion hs .store id fun _ => rfl

theorem execCheckedStoreCompletes_canonical (hs : s.ArraySound) : AnswersCanonical (execCheckedStoreCompletes s) :=
  answersCanonical_completion hs .checkedStore id fun _ => rfl

theorem execMergeCompletes_canonical (hs : s.ArraySound) : AnswersCanonical (execMergeCompletes s) :=
  answersCanonical_completion hs .merge id fun _ => rfl

theorem execRefreshCompletes_canonical (hs : s.ArraySound) : AnswersCanonical (execRefreshCompletes s) :=
  answersCanonical_completion hs .refresh (fun c => c.setRefresh c.refresh.completed) fun _ => rfl

theorem execClearCompletes_canonical (hs : s.ArraySound) : AnswersCanonical (execClearCompletes s) :=
  answersCanonical_completion hs .clear State.advanceClear fun _ => State.advanceClear_array

theorem execScrubCompletes_canonical (hs : s.ArraySound) : AnswersCanonical (execScrubCompletes s) :=
  answersCanonical_completion hs .scrub (fun c => c.setScrub (c.scrub.completed c.size)) fun _ => rfl

/-! ### Every command, and every step -/

/-- Every command keeps the array in its canonical form. -/
theorem exec_canonical (hs : s.ArraySound) (i : Instr) : AnswersCanonical (exec i s) := by
  cases i with
  | nrstFalls => exact execNrstFalls_canonical hs
  | nrstRises msize pen => exact (execNrstRises_leavesArray s msize pen).answersCanonical hs
  | prstFalls p => exact (execPrstFalls_leavesArray s p).answersCanonical hs
  | prstRises p => exact (execPrstRises_leavesArray s p).answersCanonical hs
  | linkUpDelivered p => exact (execLinkUpDelivered_leavesArray s p).answersCanonical hs
  | requestArrives p w0 w1 w2 => exact (execRequestArrives_leavesArray s p w0 w1 w2).answersCanonical hs
  | responseDelivered p => exact (execResponseDelivered_leavesArray s p).answersCanonical hs
  | read p => exact (execRead_leavesArray s p).answersCanonical hs
  | write p => exact (execWrite_leavesArray s p).answersCanonical hs
  | mergeWrite p => exact (execMergeWrite_leavesArray s p).answersCanonical hs
  | lockedRead p => exact (execLockedRead_leavesArray s p).answersCanonical hs
  | condWrite p => exact (execCondWrite_leavesArray s p).answersCanonical hs
  | refreshGrant => exact (execRefreshGrant_leavesArray s).answersCanonical hs
  | clearGrant => exact (execClearGrant_leavesArray s).answersCanonical hs
  | scrubGrant => exact (execScrubGrant_leavesArray s).answersCanonical hs
  | readingEnds flips => exact execReadingEnds_canonical hs flips
  | readOpCompletes => exact execReadOpCompletes_canonical hs
  | storeCompletes => exact execStoreCompletes_canonical hs
  | checkedStoreCompletes => exact execCheckedStoreCompletes_canonical hs
  | mergeCompletes => exact execMergeCompletes_canonical hs
  | refreshCompletes => exact execRefreshCompletes_canonical hs
  | clearCompletes => exact execClearCompletes_canonical hs
  | scrubCompletes => exact execScrubCompletes_canonical hs
  | refreshIntervalRunsOut => exact (execRefreshIntervalRunsOut_leavesArray s).answersCanonical hs
  | scrubIntervalRunsOut => exact (execScrubIntervalRunsOut_leavesArray s).answersCanonical hs
  | reservationLifetimeRunsOut addr => exact (execReservationLifetimeRunsOut_leavesArray s addr).answersCanonical hs
  | offerLifetimeRunsOut page => exact (execOfferLifetimeRunsOut_leavesArray s page).answersCanonical hs
  | unlock p => exact (execUnlock_leavesArray s p).answersCanonical hs
  | claim p => exact (execClaim_leavesArray s p).answersCanonical hs
  | grant p => exact (execGrant_leavesArray s p).answersCanonical hs
  | revoke p => exact (execRevoke_leavesArray s p).answersCanonical hs
  | offer p => exact (execOffer_leavesArray s p).answersCanonical hs
  | accept p => exact (execAccept_leavesArray s p).answersCanonical hs
  | withdraw p => exact (execWithdraw_leavesArray s p).answersCanonical hs
  | release p => exact (execRelease_leavesArray s p).answersCanonical hs
  | pageQuery p => exact (execPageQuery_leavesArray s p).answersCanonical hs
  | fetchNotice p => exact (execFetchNotice_leavesArray s p).answersCanonical hs
  | ctlRead p => exact (execCtlRead_leavesArray s p).answersCanonical hs
  | ctlWrite p => exact (execCtlWrite_leavesArray s p).answersCanonical hs
  | lostCount p => exact (execLostCount_leavesArray s p).answersCanonical hs
  | start p => exact (execStart_leavesArray s p).answersCanonical hs
  | noticeRecordCreate asker => exact (execNoticeRecordCreate_leavesArray s asker).answersCanonical hs

theorem step_canonical (hs : s.ArraySound) : AnswersCanonical (step s) := by
  unfold step
  split
  · simpa using hs
  next c rest _ => exact exec_canonical (s := s.withPending rest) hs c

end

/-- Settles O55: a step is the front command executed on a state with the same array, and every command keeps the
canonical form. -/
theorem arrayStaysCanonical : Obligations.ArrayStaysCanonical :=
  fun _ t hs ht => step_canonical hs t ht

end Sys2Proof.Machine
end

section
/-! PROOF. The check code (R1 to R10). The words whose 32 data positions and guard position hold 0 are those of
`checkWord`; every stored word is a placed data and guard with such a word over it (`split_at_check_positions`), and the
encoder chooses the one that makes every parity even (`encode_eq`). With the parities linear (Laws/Code.lean), the rest
follows from what one changed position shows. -/
namespace Sys2Proof.Machine

/-! ### A parity is a count of positions -/

theorem foldl_xor_iff (f : Nat → Bool) (l : List Nat) :
    l.foldl (fun acc n => acc ^^ f n) false = true ↔ (l.filter f).length % 2 = 1 := by
  induction l with
  | nil => simp
  | cons n rest ih =>
    rw [List.foldl_cons, foldl_xor]
    cases hn : f n with
    | false => simpa [hn] using ih
    | true =>
      have flip : (rest.foldl (fun acc n => acc ^^ f n) false = false) ↔ ¬ (rest.filter f).length % 2 = 1 := by
        rw [← ih, Bool.not_eq_true]
      simp only [Bool.false_xor, Bool.true_xor, Bool.not_eq_true', flip, List.filter_cons, hn, if_true,
        List.length_cons]
      omega

/-- The parity of selected positions is odd exactly when an odd number of them hold 1. -/
theorem parityOf_iff (select : Nat → Bool) (w : StoredWord) :
    parityOf select w = true ↔ ((List.range 40).filter fun n => select n && w.getLsbD n).length % 2 = 1 :=
  foldl_xor_iff _ _

theorem overallBad_iff (w : StoredWord) : overallBad w = true ↔ positionsSet w % 2 = 1 := by
  simpa [overallBad, positionsSet] using parityOf_iff (fun _ => true) w

theorem syndromeOf_getLsbD (w : StoredWord) {k : Nat} (hk : k < 6) :
    (syndromeOf w).getLsbD k = parityOf (covers k) w := by
  have bits : k = 0 ∨ k = 1 ∨ k = 2 ∨ k = 3 ∨ k = 4 ∨ k = 5 := by omega
  simp only [syndromeOf, BitVec.getLsbD_append]
  rcases bits with rfl | rfl | rfl | rfl | rfl | rfl <;> simp

/-- Position 0 is covered by no check bit (R2). -/
theorem covers_eq (k n : Nat) : covers k n = (decide (1 ≤ n) && n.testBit k) := by
  cases n with
  | zero => simp [covers]
  | succ n => simp [covers]

theorem syndromeOf_getLsbD_iff (w : StoredWord) {k : Nat} (hk : k < 6) :
    (syndromeOf w).getLsbD k = true ↔
      ((List.range 40).filter fun n => decide (1 ≤ n) && n.testBit k && w.getLsbD n).length % 2 = 1 := by
  rw [syndromeOf_getLsbD w hk, parityOf_iff]
  simp only [covers_eq]

/-! ### The words that hold check bits alone -/

/-- The word with check bits C0 to C5 and overall parity bit P, every data position and the guard position 0, laid out
field by field as placeData lays out data and guard (R1). -/
def checkWord (c : BitVec 6) (p : Bool) : StoredWord :=
  0#1 ++ 0#6 ++ c.extractLsb' 5 1 ++ 0#15 ++ c.extractLsb' 4 1 ++ 0#7 ++ c.extractLsb' 3 1 ++ 0#3 ++ c.extractLsb' 2 1 ++
    0#1 ++ (c.extractLsb' 0 2 ++ BitVec.ofBool p)

theorem checkWord_eq_xor : ∀ (c : BitVec 6) (p : Bool), checkWord c p = checkWord c false ^^^ checkWord 0#6 p := by
  decide +kernel

theorem checkWord_eq_or : ∀ (c : BitVec 6) (p : Bool), checkWord c p = checkWord c false ||| checkWord 0#6 p := by
  decide +kernel

/-- Each check bit stands at the position whose number is that bit of the syndrome alone, and P at position 0 (R1, R4). -/
theorem syndromeOf_checkWord (c : BitVec 6) (p : Bool) : syndromeOf (checkWord c p) = c := by
  have six : ∀ c : BitVec 6, syndromeOf (checkWord c false) = c := by decide +kernel
  have overall : ∀ p : Bool, syndromeOf (checkWord 0#6 p) = 0#6 := by decide +kernel
  rw [checkWord_eq_xor, syndromeOf_xor, six, overall, BitVec.xor_zero]

theorem overallBad_checkWord_zero : ∀ p : Bool, overallBad (checkWord 0#6 p) = p := by decide +kernel

theorem extractData_checkWord : ∀ (c : BitVec 6) (p : Bool), extractData (checkWord c p) = ⟨0#32, false⟩ := by
  decide +kernel

/-- The encoder's check bits are the parities the syndrome is made of (R2, R4). -/
theorem checkBits_eq (w : StoredWord) : checkBits w = checkWord (syndromeOf w) false := by
  unfold checkBits checkBit syndromeOf
  generalize parityOf (covers 0) w = c0, parityOf (covers 1) w = c1, parityOf (covers 2) w = c2,
    parityOf (covers 3) w = c3, parityOf (covers 4) w = c4, parityOf (covers 5) w = c5
  revert c0 c1 c2 c3 c4 c5
  decide +kernel

theorem overallBit_eq (w : StoredWord) : overallBit w = checkWord 0#6 (overallBad w) := by
  unfold overallBit overallBad
  cases parityOf (fun _ => true) w <;> rfl

/-! ### A stored word is its data and guard with check bits over them -/

theorem ofBool_getLsbD (w : StoredWord) (i : Nat) : BitVec.ofBool (w.getLsbD i) = w.extractLsb' i 1 := by
  ext j hj
  obtain rfl : j = 0 := by omega
  simp

/-- Reading a placed data and guard gives them back (R1). -/
theorem extractData_placeData (g : Guarded) : extractData (placeData g) = g := by
  have data : (extractData (placeData g)).data = g.data := by
    simp (disch := decide) only [placeData, extractData, BitVec.extractLsb'_append_eq_of_le,
      BitVec.extractLsb'_append_eq_of_add_le, BitVec.extractLsb'_append_extractLsb'_eq_extractLsb',
      BitVec.extractLsb'_eq_self, Nat.reduceSub]
  have guard : (extractData (placeData g)).guard = g.guard := by
    simp only [extractData, placeData, BitVec.getLsbD_append]
    simp
  exact congr (congrArg Guarded.mk data) guard

/-- Data and guard stand at none of the check positions (R1). -/
theorem placeData_or_checkWord (g : Guarded) (c : BitVec 6) (p : Bool) :
    placeData g ||| checkWord c p = placeData g ^^^ checkWord c p := by
  refine BitVec.or_append.trans (Eq.trans ?_ BitVec.xor_append.symm)
  simp only [BitVec.or_append, BitVec.xor_append, BitVec.or_zero, BitVec.zero_or, BitVec.xor_zero, BitVec.zero_xor]

/-- Every position of a stored word is a data, guard or check position (R1): the fields, put together again, are the
word. -/
theorem split_at_check_positions (w : StoredWord) : ∃ c p, w = placeData (extractData w) ^^^ checkWord c p := by
  refine ⟨w.extractLsb' 32 1 ++ w.extractLsb' 16 1 ++ w.extractLsb' 8 1 ++ w.extractLsb' 4 1 ++ w.extractLsb' 1 2,
    w.getLsbD 0, ?_⟩
  symm
  refine BitVec.xor_append.trans ?_
  simp only [extractData, BitVec.xor_append, BitVec.xor_zero, BitVec.zero_xor, ofBool_getLsbD]
  simp (disch := decide) only [BitVec.extractLsb'_append_eq_of_le, BitVec.extractLsb'_append_eq_of_add_le,
    BitVec.extractLsb'_append_extractLsb'_eq_extractLsb', BitVec.extractLsb'_eq_self, Nat.reduceSub]

/-! ### The encoder -/

/-- The encoder places data and guard, and sets the check positions that make every parity even (R2). -/
theorem encode_eq (g : Guarded) :
    encode g = placeData g ^^^ checkWord (syndromeOf (placeData g))
      (overallBad (placeData g ^^^ checkWord (syndromeOf (placeData g)) false)) := by
  unfold encode
  dsimp only
  rw [checkBits_eq, overallBit_eq, BitVec.or_assoc, placeData_or_checkWord, ← checkWord_eq_or, placeData_or_checkWord]

@[simp] theorem syndromeOf_encode (g : Guarded) : syndromeOf (encode g) = 0#6 := by
  rw [encode_eq, syndromeOf_xor, syndromeOf_checkWord, BitVec.xor_self]

@[simp] theorem overallBad_encode (g : Guarded) : overallBad (encode g) = false := by
  rw [encode_eq, checkWord_eq_xor, ← BitVec.xor_assoc, overallBad_xor, overallBad_checkWord_zero, Bool.xor_self]

@[simp] theorem extractData_encode (g : Guarded) : extractData (encode g) = g := by
  rw [encode_eq, extractData_xor, extractData_placeData, extractData_checkWord]
  simp

/-- A word whose parities are all even is the encoding of the data and guard it holds. -/
theorem encode_extractData {w : StoredWord} (syndrome : syndromeOf w = 0#6) (overall : overallBad w = false) :
    encode (extractData w) = w := by
  obtain ⟨c, p, hw⟩ := split_at_check_positions w
  have hc : syndromeOf (placeData (extractData w)) = c := by
    rw [hw, syndromeOf_xor, syndromeOf_checkWord] at syndrome
    exact BitVec.xor_eq_zero_iff.mp syndrome
  have hp : overallBad (placeData (extractData w) ^^^ checkWord c false) = p := by
    rw [hw, checkWord_eq_xor, ← BitVec.xor_assoc, overallBad_xor, overallBad_checkWord_zero] at overall
    simpa using overall
  rw [encode_eq, hc, hp, ← hw]

/-! ### Changed positions -/

/-- The number of a position fits the syndrome. -/
theorem toNat_position {n : Nat} (hn : n < 40) : (BitVec.ofNat 6 n).toNat = n :=
  Nat.mod_eq_of_lt (Nat.lt_trans hn (by decide))

theorem syndromeOf_invertPosition (w : StoredWord) {n : Nat} (hn : n < 40) :
    syndromeOf (invertPosition w n) = syndromeOf w ^^^ BitVec.ofNat 6 n := by
  have position : syndromeOf (1#40 <<< n) = BitVec.ofNat 6 n :=
    BitVec.eq_of_toNat_eq ((syndrome_of_position ⟨n, hn⟩).1.trans (toNat_position hn).symm)
  rw [invertPosition, syndromeOf_xor, position]

theorem overallBad_invertPosition (w : StoredWord) {n : Nat} (hn : n < 40) :
    overallBad (invertPosition w n) = !overallBad w := by
  rw [invertPosition, overallBad_xor, (syndrome_of_position ⟨n, hn⟩).2, Bool.xor_true]

/-- A position changed twice is as it was. -/
@[simp] theorem invertPosition_invertPosition (w : StoredWord) (n : Nat) :
    invertPosition (invertPosition w n) n = w := by
  rw [invertPosition, invertPosition, BitVec.xor_assoc, BitVec.xor_self, BitVec.xor_zero]

/-- Two different positions never cancel in the syndrome. -/
theorem xor_ne_zero_of_ne {n m : Nat} (hne : n ≠ m) : n ^^^ m ≠ 0 := by
  intro h
  have same : (n ^^^ m) ^^^ m = 0 ^^^ m := congrArg (· ^^^ m) h
  rw [Nat.xor_assoc, Nat.xor_self, Nat.xor_zero, Nat.zero_xor] at same
  exact hne same

theorem eq_zero_of_positionsSet {w : StoredWord} (h : positionsSet w = 0) : w = 0#40 := by
  apply BitVec.eq_of_getLsbD_eq
  intro i hi
  have clear := List.filter_eq_nil_iff.mp (List.length_eq_zero_iff.mp h) i (List.mem_range.mpr hi)
  simpa using clear

theorem eq_position_of_positionsSet {w : StoredWord} (h : positionsSet w = 1) : ∃ n, n < 40 ∧ w = 1#40 <<< n := by
  obtain ⟨n, hn⟩ := List.length_eq_one_iff.mp h
  have set_iff (i : Nat) : (i < 40 ∧ w.getLsbD i = true) ↔ i = n := by
    rw [← List.mem_range, ← List.mem_filter (p := fun i => w.getLsbD i), hn, List.mem_singleton]
  refine ⟨n, ((set_iff n).mpr rfl).1, BitVec.eq_of_getLsbD_eq fun i hi => ?_⟩
  have here : w.getLsbD i = true ↔ i = n := by simpa [hi] using set_iff i
  rw [Bool.eq_iff_iff, here, BitVec.getLsbD_shiftLeft, BitVec.getLsbD_one]
  simp [hi]
  omega

/-! ### The decoder, class by class (R5, R7) -/

/-- The subclasses of R6 by their positions. -/
theorem subclassOf_iff (n : Nat) :
    (subclassOf n = .guard ↔ n = 39) ∧ (subclassOf n = .check ↔ n ∈ [0, 1, 2, 4, 8, 16, 32]) := by
  unfold subclassOf
  split
  case isTrue h => simp [h]
  case isFalse h => split <;> simp_all [or_assoc]

section
variable {w : StoredWord}

theorem decode_clean (overall : overallBad w = false) (syndrome : syndromeOf w = 0#6) :
    decode w = { cls := .clean, syndrome := 0#6, corrected := some (extractData w) } := by
  simp [decode, classify, resultOf, overall, syndrome]

theorem decode_single (overall : overallBad w = true) {n : Nat} (syndrome : (syndromeOf w).toNat = n) (hn : n ≤ 39) :
    decode w = { cls := .single (subclassOf n) n, syndrome := syndromeOf w,
                 corrected := some (extractData (invertPosition w n)) } := by
  simp [decode, classify, resultOf, overall, syndrome, hn]

theorem decode_double (overall : overallBad w = false) (syndrome : (syndromeOf w).toNat ≠ 0) :
    decode w = { cls := .double, syndrome := syndromeOf w, corrected := none } := by
  simp [decode, classify, resultOf, overall, syndrome]

theorem decode_multiple (overall : overallBad w = true) (syndrome : 40 ≤ (syndromeOf w).toNat) :
    decode w = { cls := .multiple, syndrome := syndromeOf w, corrected := none } := by
  simp [decode, classify, resultOf, overall, Nat.not_le.mpr syndrome]

/-- The four rows of the table of R5 leave nothing out. -/
theorem rows_of_table (w : StoredWord) :
    (overallBad w = false ∧ syndromeOf w = 0#6) ∨ (overallBad w = true ∧ (syndromeOf w).toNat ≤ 39) ∨
      (overallBad w = false ∧ (syndromeOf w).toNat ≠ 0) ∨ (overallBad w = true ∧ 40 ≤ (syndromeOf w).toNat) := by
  have zero_iff : syndromeOf w = 0#6 ↔ (syndromeOf w).toNat = 0 := by
    rw [← BitVec.toNat_inj]
    rfl
  rw [zero_iff]
  cases overallBad w <;> simp <;> omega

/-- What a word that decodes SINGLE is (R5, R6, R7). -/
theorem of_decode_single {sub : Subclass} {n : Nat} (h : (decode w).cls = .single sub n) :
    overallBad w = true ∧ syndromeOf w = BitVec.ofNat 6 n ∧ n < 40 ∧
      (decode w).corrected = some (extractData (invertPosition w n)) := by
  rcases rows_of_table w with ⟨ho, hs⟩ | ⟨ho, hs⟩ | ⟨ho, hs⟩ | ⟨ho, hs⟩
  case inr.inl =>
    rw [decode_single ho rfl hs] at h ⊢
    obtain ⟨_, rfl⟩ := WordClass.single.inj h
    exact ⟨ho, by simp, by omega, rfl⟩
  · simp [decode_clean ho hs] at h
  · simp [decode_double ho hs] at h
  · simp [decode_multiple ho hs] at h

theorem of_decode_double (h : (decode w).cls = .double) : overallBad w = false ∧ (syndromeOf w).toNat ≠ 0 := by
  rcases rows_of_table w with ⟨ho, hs⟩ | ⟨ho, hs⟩ | ⟨ho, hs⟩ | ⟨ho, hs⟩
  case inr.inr.inl => exact ⟨ho, hs⟩
  · simp [decode_clean ho hs] at h
  · simp [decode_single ho rfl hs] at h
  · simp [decode_multiple ho hs] at h

theorem of_decode_multiple (h : (decode w).cls = .multiple) : overallBad w = true ∧ 40 ≤ (syndromeOf w).toNat := by
  rcases rows_of_table w with ⟨ho, hs⟩ | ⟨ho, hs⟩ | ⟨ho, hs⟩ | ⟨ho, hs⟩
  case inr.inr.inr => exact ⟨ho, hs⟩
  · simp [decode_clean ho hs] at h
  · simp [decode_single ho rfl hs] at h
  · simp [decode_double ho hs] at h

/-- CLEAN and SINGLE words are correctable, DOUBLE and MULTIPLE ones are not (R5, R8). -/
theorem decode_corrected_isSome_iff (w : StoredWord) :
    (decode w).corrected.isSome = true ↔ (decode w).cls = .clean ∨ ∃ sub n, (decode w).cls = .single sub n := by
  rcases rows_of_table w with ⟨ho, hs⟩ | ⟨ho, hs⟩ | ⟨ho, hs⟩ | ⟨ho, hs⟩
  · simp [decode_clean ho hs]
  · simp [decode_single ho rfl hs]
  · simp [decode_double ho hs]
  · simp [decode_multiple ho hs]

end

/-! ### What the parities of a changed word say of the changes -/

section
variable (g : Guarded) (changed : StoredWord)

theorem syndromeOf_encode_xor : syndromeOf (encode g ^^^ changed) = syndromeOf changed := by
  rw [syndromeOf_xor, syndromeOf_encode, BitVec.zero_xor]

theorem overallBad_encode_xor : overallBad (encode g ^^^ changed) = overallBad changed := by
  rw [overallBad_xor, overallBad_encode, Bool.false_xor]

/-- One changed position alone is SINGLE; so a MULTIPLE word has at least three (R5). -/
theorem positionsSet_of_multiple (h : (decode (encode g ^^^ changed)).cls = .multiple) :
    positionsSet changed % 2 = 1 ∧ 3 ≤ positionsSet changed := by
  obtain ⟨overall, syndrome⟩ := of_decode_multiple h
  rw [overallBad_encode_xor, overallBad_iff] at overall
  rw [syndromeOf_encode_xor] at syndrome
  have not_one : positionsSet changed ≠ 1 := by
    intro one
    obtain ⟨n, hn, rfl⟩ := eq_position_of_positionsSet one
    have := (syndrome_of_position ⟨n, hn⟩).1
    dsimp only at this
    omega
  omega

/-- A word read back unchanged is CLEAN; so a DOUBLE word has at least two changed positions (R5). -/
theorem positionsSet_of_double (h : (decode (encode g ^^^ changed)).cls = .double) :
    positionsSet changed % 2 = 0 ∧ 2 ≤ positionsSet changed := by
  obtain ⟨overall, syndrome⟩ := of_decode_double h
  rw [overallBad_encode_xor, Bool.eq_false_iff, ne_eq, overallBad_iff] at overall
  rw [syndromeOf_encode_xor] at syndrome
  have not_zero : positionsSet changed ≠ 0 := by
    intro zero
    rw [eq_zero_of_positionsSet zero] at syndrome
    exact syndrome (by decide +kernel)
  omega

end

/-! ### Encoded words with none, one or two positions changed (R4) -/

section
variable (g : Guarded) {n m : Nat}

theorem syndromeOf_one_changed (hn : n < 40) : syndromeOf (invertPosition (encode g) n) = BitVec.ofNat 6 n := by
  rw [syndromeOf_invertPosition _ hn, syndromeOf_encode, BitVec.zero_xor]

theorem overallBad_one_changed (hn : n < 40) : overallBad (invertPosition (encode g) n) = true := by
  rw [overallBad_invertPosition _ hn, overallBad_encode, Bool.not_false]

theorem syndromeOf_two_changed (hn : n < 40) (hm : m < 40) :
    syndromeOf (invertPosition (invertPosition (encode g) n) m) = BitVec.ofNat 6 n ^^^ BitVec.ofNat 6 m := by
  rw [syndromeOf_invertPosition _ hm, syndromeOf_one_changed g hn]

theorem overallBad_two_changed (hn : n < 40) (hm : m < 40) :
    overallBad (invertPosition (invertPosition (encode g) n) m) = false := by
  rw [overallBad_invertPosition _ hm, overallBad_one_changed g hn, Bool.not_true]

theorem toNat_two_changed (hn : n < 40) (hm : m < 40) :
    (syndromeOf (invertPosition (invertPosition (encode g) n) m)).toNat = n ^^^ m := by
  rw [syndromeOf_two_changed g hn hm, BitVec.toNat_xor, toNat_position hn, toNat_position hm]

end

/-! ### The statements -/

/-- Settles O1: the parities as counts of positions, and the changed positions of an encoded word. -/
theorem syndromeAndParity : Obligations.SyndromeAndParity := by
  refine ⟨fun w => ⟨fun k hk => syndromeOf_getLsbD_iff w hk, overallBad_iff w⟩, fun g => ⟨?_, ?_, ?_⟩⟩
  · exact ⟨syndromeOf_encode g, overallBad_encode g⟩
  · intro n hn
    exact ⟨by rw [syndromeOf_one_changed g hn, toNat_position hn], overallBad_one_changed g hn⟩
  · intro n m hn hm hne
    exact ⟨toNat_two_changed g hn hm, xor_ne_zero_of_ne hne, overallBad_two_changed g hn hm⟩

/-- Settles O2, row by row of the table. -/
theorem decodeClassFollowsTable : Obligations.DecodeClassFollowsTable := by
  refine ⟨fun w => ⟨?_, ?_, ?_, ?_, decode_corrected_isSome_iff w⟩, fun g changed =>
    ⟨positionsSet_of_multiple g changed, positionsSet_of_double g changed⟩⟩
  · intro overall syndrome
    rw [decode_clean overall (BitVec.eq_of_toNat_eq syndrome)]
  · intro overall syndrome
    exact ⟨_, by rw [decode_single overall rfl syndrome]⟩
  · intro overall syndrome
    rw [decode_multiple overall syndrome]
  · intro overall syndrome
    rw [decode_double overall (by omega)]

/-- Settles O3: the class from the changed positions, the data and guard from the word the decoder restores. -/
theorem codeCorrectsOneDetectsTwo : Obligations.CodeCorrectsOneDetectsTwo := by
  refine ⟨subclassOf_iff, by decide +kernel, fun g => ⟨?_, ?_, ?_⟩⟩
  · rw [decode_clean (overallBad_encode g) (syndromeOf_encode g), extractData_encode]
  · intro n hn
    have position := syndromeOf_one_changed g hn
    rw [decode_single (overallBad_one_changed g hn) (by rw [position, toNat_position hn]) (Nat.le_of_lt_succ hn),
      position, invertPosition_invertPosition, extractData_encode]
  · intro n m hn hm hne
    have apart : (syndromeOf (invertPosition (invertPosition (encode g) n) m)).toNat ≠ 0 := by
      rw [toNat_two_changed g hn hm]
      exact xor_ne_zero_of_ne hne
    rw [decode_double (overallBad_two_changed g hn hm) apart, syndromeOf_two_changed g hn hm]

/-- Settles O4: the word with its bad position inverted has even parities, and only an encoded word has. -/
theorem writeBackRestores : Obligations.WriteBackRestores := by
  intro w sub n c single corrected
  obtain ⟨overall, syndrome, hn, hc⟩ := of_decode_single single
  obtain rfl : extractData (invertPosition w n) = c := Option.some.inj (hc.symm.trans corrected)
  have evenSyndrome : syndromeOf (invertPosition w n) = 0#6 := by
    rw [syndromeOf_invertPosition w hn, syndrome, BitVec.xor_self]
  have evenOverall : overallBad (invertPosition w n) = false := by
    rw [overallBad_invertPosition w hn, overall, Bool.not_true]
  have restored := encode_extractData evenSyndrome evenOverall
  exact ⟨restored, by rw [restored, decode_clean evenOverall evenSyndrome]⟩

end Sys2Proof.Machine
end

section
/-! PROOF. What an operation settles to write once it has read its word (R8, R10, R116 to R122). -/
namespace Sys2Proof.Machine

theorem DecodeResult.isSingle_iff (d : DecodeResult) : d.isSingle = true ↔ ∃ sub n, d.cls = .single sub n := by
  unfold DecodeResult.isSingle
  cases d.cls <;> simp

/-- Byte k of the merged data is the request's where the mask enables it, else the corrected word's (R120). -/
theorem mergeBytes_byte (mask : BitVec 4) (new old : Word) {k : Nat} (hk : k < 4) :
    (mergeBytes mask new old).extractLsb' (8 * k) 8 =
      (if mask.getLsbD k then new else old).extractLsb' (8 * k) 8 := by
  have bytes : k = 0 ∨ k = 1 ∨ k = 2 ∨ k = 3 := by omega
  unfold mergeBytes
  rcases bytes with rfl | rfl | rfl | rfl <;>
    simp (disch := decide) only [BitVec.extractLsb'_append_eq_of_le, BitVec.extractLsb'_append_eq_of_add_le,
      BitVec.extractLsb'_eq_self, Nat.reduceMul, Nat.reduceSub]

/-- The data of a write that the guard check lets through: the request's, or for a MERGE the merged data (R119, R120). -/
theorem settleWrite_data {merge : Bool} {t : PortTerms} {c g : Guarded} (h : settleWrite merge t c = some g) :
    g.data = if merge then mergeBytes t.msg.byteMask t.msg.data c.data else t.msg.data := by
  unfold settleWrite at h
  split at h
  · cases h
  · cases h
    rfl

section
variable {writeBack : Bool} {o : Operation} {d : DecodeResult}

theorem settle_of_uncorrected (hd : d.corrected = none) : settle writeBack o d = none := by
  simp [settle, hd]

variable {c : Guarded} (hd : d.corrected = some c)
include hd

theorem settle_read (hk : o.kind = .read) :
    settle writeBack o d = if d.isSingle = true ∧ writeBack = true then some c else none := by
  simp [settle, hd, hk]

theorem settle_scrub (hk : o.kind = .scrub) : settle writeBack o d = if d.isSingle = true then some c else none := by
  simp [settle, hd, hk]

variable {t : PortTerms} (ht : o.served = .port t)
include ht

theorem settle_checkedStore (hk : o.kind = .checkedStore) : settle writeBack o d = settleWrite false t c := by
  simp [settle, hd, hk, ht]

theorem settle_merge (hk : o.kind = .merge) : settle writeBack o d = settleWrite true t c := by
  simp [settle, hd, hk, ht]

end

/-- Settles O29, kind by kind. -/
theorem settledByKind : Obligations.SettledByKind := by
  refine fun writeBack o d => ⟨d.isSingle_iff, settle_of_uncorrected, fun c hd =>
    ⟨settle_read hd, settle_scrub hd, fun t g ht settled => ⟨fun hk => ?_, fun hk k hb => ?_⟩⟩⟩
  · rw [settle_checkedStore hd ht hk] at settled
    exact settleWrite_data settled
  · rw [settle_merge hd ht hk] at settled
    rw [settleWrite_data settled]
    exact mergeBytes_byte _ _ _ hb

end Sys2Proof.Machine
end

section
/-! PROOF. Frames of the shared operations, and of a chain of them: what one command changes is what its operations
change. -/
namespace Sys2Proof.Machine

variable {s t u : State}

/-! ### Frames in a chain -/

theorem State.SameBlock.trans {b : Block} (h : s.SameBlock t b) (k : t.SameBlock u b) : s.SameBlock u b := by
  cases b <;> exact Eq.trans k h

/-- Of two steps in a row, the second changing `k`, nothing changes but what either lists. -/
theorem State.ChangesOnly.trans {l k : List Block} (h : s.ChangesOnly t l) (h' : t.ChangesOnly u k) :
    s.ChangesOnly u (l ++ k) := fun b hb =>
  (h b fun hl => hb (List.mem_append_left k hl)).trans (h' b fun hk => hb (List.mem_append_right l hk))

theorem State.ChangesOnly.mono {l k : List Block} (h : s.ChangesOnly t l) (hlk : l ⊆ k) : s.ChangesOnly t k :=
  fun b hb => h b fun hl => hb (hlk hl)

/-! ### The frame of each operation -/

theorem State.changesOnly_setEntry (n : Nat) (e : PageEntry) : s.ChangesOnly (s.setEntry n e) [.entries] := by
  intro b hb
  cases b <;> first | rfl | exact absurd (by simp) hb

theorem State.changesOnly_setOffers (l : List OfferEntry) : s.ChangesOnly (s.setOffers l) [.offers] := by
  intro b hb
  cases b <;> first | rfl | exact absurd (by simp) hb

theorem State.changesOnly_dropReservations (gone : Reservation → Bool) :
    s.ChangesOnly (s.dropReservations gone) [.reservations, .parking] := by
  intro b hb
  cases b <;> first | rfl | exact absurd (by simp) hb

theorem State.changesOnly_setClear (c : ClearEngine) : s.ChangesOnly (s.setClear c) [.clear] := by
  intro b hb
  cases b <;> first | rfl | exact absurd (by simp) hb

theorem State.changesOnly_ask (l : List NoticeRequest) : s.ChangesOnly (s.ask l) [.asked] := by
  intro b hb
  cases b <;> first | rfl | exact absurd (by simp) hb

/-! ### Reservations dropped -/

@[simp] theorem State.answerStatus_reservations (p : Port) (m : Request) (st : Status) :
    (s.answerStatus p m st).table.entries = s.table.entries := rfl

theorem State.dropReservations_entries (gone : Reservation → Bool) :
    (s.dropReservations gone).table.entries = s.table.entries.filter (fun e => !gone e) := rfl

theorem State.dropReservations_onPage_entries (n : Nat) :
    (s.dropReservations (Reservation.onPage n)).table.entries =
      s.table.entries.filter (fun e => decide (pageOf e.addr ≠ n)) := by
  simp [State.dropReservations_entries, Reservation.onPage]

theorem State.dropReservations_ofPortOnPage_entries (p : Port) (n : Nat) :
    (s.dropReservations (Reservation.ofPortOnPage p n)).table.entries =
      s.table.entries.filter (fun e => !(decide (e.port = p) && decide (pageOf e.addr = n))) := rfl

/-- A drop evaluates parking for every port (R87, R88). -/
theorem State.parkingSound_dropReservations (gone : Reservation → Bool) : (s.dropReservations gone).ParkingSound :=
  State.parkingSound_iff.mpr fun p => State.setReservations_parking s _ p

/-! ### Offers removed -/

/-- A page whose offer is removed has none (R71). -/
theorem State.offerOf_eq_none_of_removed {n : Nat}
    (h : t.pageMap.offers = s.pageMap.offers.filter fun o => decide (o.page ≠ n)) : t.offerOf n = none := by
  simp [State.offerOf, h]

end Sys2Proof.Machine
end

section
/-! PROOF. The lifetimes of reservations and offers (R76, R88, R98). -/
namespace Sys2Proof.Machine

variable {s : State}

theorem exec_reservationLifetimeRunsOut {addr : Nat} (h : ∃ e ∈ s.table.entries, e.addr = addr) :
    exec (.reservationLifetimeRunsOut addr) s = .next (s.dropReservations fun e => decide (e.addr = addr)) := by
  have stands : s.table.entries.any (fun e => decide (e.addr = addr)) = true := by simpa using h
  exact if_pos stands

theorem exec_reservationLifetimeRunsOut_of_none {addr : Nat} (h : ∀ e ∈ s.table.entries, e.addr ≠ addr) :
    exec (.reservationLifetimeRunsOut addr) s = .next s := by
  have none_stands : ¬ s.table.entries.any (fun e => decide (e.addr = addr)) = true := by simpa using h
  exact if_neg none_stands

theorem exec_offerLifetimeRunsOut {page : Nat} {o : OfferEntry} (h : s.offerOf page = some o) :
    exec (.offerLifetimeRunsOut page) s =
      .next (((s.removeOffer page).backToHeld page).ask [.offerExpired page o.fromPort o.toPort]) := by
  change execOfferLifetimeRunsOut page s = _
  rw [execOfferLifetimeRunsOut, h]

theorem exec_offerLifetimeRunsOut_of_none {page : Nat} (h : s.offerOf page = none) :
    exec (.offerLifetimeRunsOut page) s = .next s := by
  change execOfferLifetimeRunsOut page s = _
  rw [execOfferLifetimeRunsOut, h]

/-- An offer that ends without a hand-over changes the offer list and the page's entry (R75, R76). -/
theorem State.changesOnly_endOffer (n : Nat) :
    s.ChangesOnly ((s.removeOffer n).backToHeld n) [.offers, .entries] :=
  (State.changesOnly_setOffers _).trans (State.changesOnly_setEntry n _)

/-- Settles O38: the entries that go are those the model drops, and a page with an offer that is OFFERED has an entry
to return to HELD. -/
theorem lifetimesRunOut : Obligations.LifetimesRunOut := by
  refine fun s => ⟨?reservation, fun _ => exec_reservationLifetimeRunsOut_of_none,
    fun _ => exec_offerLifetimeRunsOut_of_none, ?offer⟩
  case reservation =>
    intro addr stands
    refine ⟨_, exec_reservationLifetimeRunsOut stands, ?_, State.parkingSound_dropReservations _,
      State.changesOnly_dropReservations _⟩
    simp [State.dropReservations_entries]
  case offer =>
    intro page o offer offered
    have inMap : page < s.pageMap.entries.length := State.lt_of_entry (by simp [offered])
    exact ⟨_, exec_offerLifetimeRunsOut offer, rfl, State.entryBecomes_setEntry inMap rfl, rfl,
      (State.changesOnly_endOffer page).trans (State.changesOnly_ask _)⟩

end Sys2Proof.Machine
end

section
/-! PROOF. The page requests of chapter 4: the checks of R61 in their order, what a request does once it passes them,
and the answer that follows (R60). -/
namespace Sys2Proof.Machine

variable {s : State} {e : PageEntry} {p target : Port} {m : Request}

/-! ### The checks of R61 -/

theorem PageEntry.owner_of_ownedBy (h : e.ownedBy p = true) : e.owner = some p := by
  simp only [PageEntry.ownedBy, Bool.and_eq_true, decide_eq_true_eq] at h
  exact h.2

/-- The owner check has named the owner, so a target that is not the owner is not the requester (R61). -/
theorem PageEntry.owner_ne_iff_of_ownedBy (h : e.ownedBy p = true) : e.owner ≠ some target ↔ target ≠ p := by
  rw [PageEntry.owner_of_ownedBy h, ne_eq, Option.some.injEq, eq_comm]

theorem judgeOwner_of_not_owned (h : e.ownedBy p = false) : judgeOwner e p = some .notOwner := by
  simp [judgeOwner, h]

theorem judgeOwner_of_offered (h : e.ownedBy p = true) (offered : e.state = .offered) :
    judgeOwner e p = some .pending := by
  simp [judgeOwner, h, offered]

theorem judgeOwner_of_held (h : e.ownedBy p = true) (held : e.state = .held) : judgeOwner e p = none := by
  simp [judgeOwner, h, held]

theorem judgeGrant_of_judgeOwner {st : Status} (h : judgeOwner e p = some st) : judgeGrant s e p target = some st := by
  simp [judgeGrant, h]

theorem judgeGrant_of_held (h : e.ownedBy p = true) (held : e.state = .held) :
    judgeGrant s e p target = if (s.port target).state = .active ∧ target ≠ p then none else some .badTarget := by
  simp [judgeGrant, judgeOwner_of_held h held, State.isActive, PageEntry.owner_ne_iff_of_ownedBy h, -ne_eq]

theorem judgeGrant_of_bad_target (h : e.ownedBy p = true) (held : e.state = .held)
    (bad : (s.port target).state ≠ .active ∨ target = p) : judgeGrant s e p target = some .badTarget := by
  rw [judgeGrant_of_held h held, if_neg fun good => bad.elim (· good.1) good.2]

theorem judgeGrant_of_good_target (h : e.ownedBy p = true) (held : e.state = .held)
    (active : (s.port target).state = .active) (other : target ≠ p) : judgeGrant s e p target = none := by
  rw [judgeGrant_of_held h held, if_pos ⟨active, other⟩]

theorem judgeRevoke_of_judgeOwner {st : Status} (h : judgeOwner e p = some st) :
    judgeRevoke s e p target = some st := by
  simp [judgeRevoke, h]

theorem judgeRevoke_of_held (h : e.ownedBy p = true) (held : e.state = .held) :
    judgeRevoke s e p target = if (s.port target).state ≠ .absent ∧ target ≠ p then none else some .badTarget := by
  simp [judgeRevoke, judgeOwner_of_held h held, PageEntry.owner_ne_iff_of_ownedBy h, -ne_eq]

theorem judgeOffer_of_judgeGrant {st : Status} (h : judgeGrant s e p target = some st) :
    judgeOffer s e p target = some st := by
  simp [judgeOffer, h]

theorem judgeOffer_of_passed (h : judgeGrant s e p target = none) :
    judgeOffer s e p target = if s.pageMap.offers.length < 8 then none else some .noRoom := by
  simp [judgeOffer, h, Config.offerRoom]

theorem judgeWithdraw_of_owned (h : e.ownedBy p = true) :
    judgeWithdraw e p = if e.state = .offered then none else some .noOffer := by
  simp [judgeWithdraw, h]

theorem judgeWithdraw_of_not_owned (h : e.ownedBy p = false) : judgeWithdraw e p = some .notOwner := by
  simp [judgeWithdraw, h]

/-- ACCEPT takes the offer entry of an OFFERED page that names the requester (R61, R74). -/
theorem State.offerTo_eq_some_iff {n : Nat} {o : OfferEntry} :
    s.offerTo n p = some o ↔ s.offerOf n = some o ∧ (s.entry n).state = .offered ∧ o.toPort = p := by
  unfold State.offerTo
  cases s.offerOf n with
  | none => simp
  | some o' => grind

/-- Without such an entry ACCEPT takes none. -/
theorem State.offerTo_eq_none {n : Nat}
    (h : (s.entry n).state ≠ .offered ∨ ∀ o, s.offerOf n = some o → o.toPort ≠ p) : s.offerTo n p = none := by
  refine Option.eq_none_iff_forall_ne_some.mpr fun o ho => ?_
  obtain ⟨stands, offered, named⟩ := State.offerTo_eq_some_iff.mp ho
  exact h.elim (· offered) (· o stands named)

/-! ### A request is judged, and answered -/

/-- The state after a judged request (R60): answered with its verdict as it stands, or OK after its success. -/
def State.judged (s : State) (p : Port) (m : Request) (verdict : Option Status) (success : State) : State :=
  match verdict with
  | some st => s.answerStatus p m st
  | none => success.answerStatus p m .ok

/-- A command that takes the request waiting for it, judges it and answers it (log entry 9). -/
theorem next_judged_of_routed {k : RequestKind} {verdict : Request → Option Status} {success : Request → State}
    (h : s.Routed p m k) :
    (match s.routed p k with
      | none => .next s
      | some m =>
        match verdict m with
        | some st => .next (s.answerStatus p m st)
        | none => .next ((success m).answerStatus p m .ok) : Host.Outcome State Fault Refusal) =
      .next (s.judged p m (verdict m) (success m)) := by
  rw [h.eq]
  dsimp only [State.judged]
  cases verdict m <;> rfl

section
variable {i : Instr} {verdict : Option Status} {success : State} (h : exec i s = .next (s.judged p m verdict success))
include h

/-- A request with an adverse verdict is refused with it. -/
theorem completes_refused {st : Status} (adverse : verdict = some st) :
    Completes i s fun t => s.RefusedWith t p m st := by
  subst adverse
  exact ⟨_, h, State.refusedWith_answerStatus p m st⟩

/-- A request that passes its checks leaves its success, answered OK. -/
theorem completes_passed {post : State → Prop} (passed : verdict = none) (holds : post (success.answerStatus p m .ok)) :
    Completes i s post := by
  subst passed
  exact ⟨_, h, holds⟩

end

/-! ### What each request does when it takes its turn -/

theorem exec_claim (h : s.Routed p m .claim) :
    exec (.claim p) s =
      .next (s.judged p m (judgeClaim (s.entry m.page))
        (s.setEntry m.page ((s.entry m.page).claimed p m.guardMode))) :=
  next_judged_of_routed h

theorem exec_grant (h : s.Routed p m .grant) :
    exec (.grant p) s =
      .next (s.judged p m (judgeGrant s (s.entry m.page) p m.target) (s.grantRight m.page m.target m.rightWrite)) :=
  next_judged_of_routed h

theorem exec_revoke (h : s.Routed p m .revoke) :
    exec (.revoke p) s =
      .next (s.judged p m (judgeRevoke s (s.entry m.page) p m.target)
        ((s.setEntry m.page ((s.entry m.page).revoked m.target)).dropReservations
          (Reservation.ofPortOnPage m.target m.page))) :=
  next_judged_of_routed h

theorem exec_offer (h : s.Routed p m .offer) :
    exec (.offer p) s =
      .next (s.judged p m (judgeOffer s (s.entry m.page) p m.target) (s.makeOffer m.page p m.target)) :=
  next_judged_of_routed h

theorem exec_withdraw (h : s.Routed p m .withdraw) :
    exec (.withdraw p) s =
      .next (s.judged p m (judgeWithdraw (s.entry m.page) p) ((s.removeOffer m.page).backToHeld m.page)) :=
  next_judged_of_routed h

theorem exec_release (h : s.Routed p m .release) :
    exec (.release p) s =
      .next (s.judged p m (judgeOwner (s.entry m.page) p) (s.giveUp m.page m.clearOption)) :=
  next_judged_of_routed h

theorem exec_accept (h : s.Routed p m .accept) {o : OfferEntry} (taken : s.offerTo m.page p = some o) :
    exec (.accept p) s = .next ((s.takeOver m.page p o).answerStatus p m .ok) := by
  change execAccept p s = _
  rw [execAccept, h.eq]
  simp [taken]

/-- An ACCEPT that no offer entry of an OFFERED page awaits is refused (R61). -/
theorem completes_accept_refused (h : s.Routed p m .accept)
    (other : (s.entry m.page).state ≠ .offered ∨ ∀ o, s.offerOf m.page = some o → o.toPort ≠ p) :
    Completes (.accept p) s fun t => s.RefusedWith t p m .noOffer := by
  refine ⟨s.answerStatus p m .noOffer, ?_, State.refusedWith_answerStatus p m .noOffer⟩
  change execAccept p s = _
  rw [execAccept, h.eq]
  simp [State.offerTo_eq_none other]

/-! ### What a success leaves -/

section
variable (s)

theorem State.grantRight_of_downgrade {n : Nat} (h : (s.entry n).writeSet.get target = true) :
    s.grantRight n target false =
      (s.setEntry n ((s.entry n).granted target false)).dropReservations (Reservation.ofPortOnPage target n) := by
  simp [State.grantRight, h]

theorem State.grantRight_of_no_downgrade {n : Nat} {write : Bool}
    (h : write = true ∨ (s.entry n).writeSet.get target = false) :
    s.grantRight n target write = s.setEntry n ((s.entry n).granted target write) := by
  rcases h with h | h <;> simp [State.grantRight, h]

/-- Whatever the right, GRANT puts the target in the sets alike (R64, R65). -/
theorem State.grantRight_entries (n : Nat) (target : Port) (write : Bool) :
    (s.grantRight n target write).pageMap.entries = s.pageMap.entries.set n ((s.entry n).granted target write) := by
  unfold State.grantRight
  dsimp only
  split <;> rfl

theorem State.changesOnly_grantRight (n : Nat) (target : Port) (write : Bool) :
    s.ChangesOnly (s.grantRight n target write) [.entries, .reservations, .parking] := by
  unfold State.grantRight
  dsimp only
  split
  · exact (State.changesOnly_setEntry _ _).trans (State.changesOnly_dropReservations _)
  · exact (State.changesOnly_setEntry _ _).mono (by simp)

theorem State.changesOnly_makeOffer (n : Nat) (p target : Port) :
    s.ChangesOnly (s.makeOffer n p target) [.entries, .offers, .asked] :=
  ((State.changesOnly_setEntry _ _).trans (State.changesOnly_setOffers _)).trans (State.changesOnly_ask _)

theorem State.parkingSound_takeOver (n : Nat) (p : Port) (o : OfferEntry) : (s.takeOver n p o).ParkingSound :=
  (State.parkingSound_congr rfl rfl).mpr (State.parkingSound_dropReservations (Reservation.onPage n))

theorem State.changesOnly_takeOver (n : Nat) (p : Port) (o : OfferEntry) :
    s.ChangesOnly (s.takeOver n p o) [.entries, .offers, .reservations, .parking, .asked] :=
  (((State.changesOnly_setEntry _ _).trans (State.changesOnly_setOffers _)).trans
    (State.changesOnly_dropReservations _)).trans (State.changesOnly_ask _)

/-- RELEASE gives the entry up alike with and without clearing, but for the state it leaves (R68). -/
theorem State.giveUp_entries (n : Nat) (clearing : Bool) :
    (s.giveUp n clearing).pageMap.entries = s.pageMap.entries.set n ((s.entry n).released clearing) := by
  cases clearing <;> rfl

theorem State.giveUp_table (n : Nat) (clearing : Bool) :
    (s.giveUp n clearing).table = (s.dropReservations (Reservation.onPage n)).table := by
  cases clearing <;> rfl

theorem State.giveUp_clear (n : Nat) (clearing : Bool) :
    (s.giveUp n clearing).clear = if clearing then s.clear.append n else s.clear := by
  cases clearing <;> rfl

theorem State.parkingSound_giveUp (n : Nat) (clearing : Bool) : (s.giveUp n clearing).ParkingSound :=
  (State.parkingSound_congr (s.giveUp_table n clearing) (s.giveUp_ports n clearing)).mpr
    (State.parkingSound_dropReservations _)

theorem State.changesOnly_giveUp (n : Nat) (clearing : Bool) :
    s.ChangesOnly (s.giveUp n clearing) [.entries, .reservations, .parking, .clear] := by
  have dropped (e : PageEntry) : s.ChangesOnly ((s.setEntry n e).dropReservations (Reservation.onPage n))
      [.entries, .reservations, .parking] :=
    (State.changesOnly_setEntry n e).trans (State.changesOnly_dropReservations _)
  cases clearing with
  | true => exact (dropped _).trans (State.changesOnly_setClear _)
  | false => exact (dropped _).mono (by simp)

end

/-! ### The statements -/

/-- Settles O40, by the state of the page. -/
theorem claimTaken : Obligations.ClaimTaken := by
  intro s p m routed
  refine ⟨fun free => ?claimed, fun owned => ?taken, fun clearing => ?clearing⟩
  case claimed =>
    have inMap : m.page < s.pageMap.entries.length := State.lt_of_entry (by simp [free])
    exact completes_passed (exec_claim routed) (by simp [judgeClaim, free])
      ⟨State.entryBecomes_setEntry inMap rfl, State.answeredWith_answer rfl p _, State.remarked_answer rfl p _,
        (State.changesOnly_setEntry _ _).trans (State.changesOnly_answer p _)⟩
  case taken =>
    refine completes_refused (exec_claim routed) ?_
    rcases owned with held | offered
    · simp [judgeClaim, held]
    · simp [judgeClaim, offered]
  case clearing => exact completes_refused (exec_claim routed) (by simp [judgeClaim, clearing])

/-- Settles O41: the checks in order, then the two ways in which the right can be given. -/
theorem grantTaken : Obligations.GrantTaken := by
  intro s p m routed
  refine ⟨fun notOwned => ?notOwner, fun owned offered => ?pending, fun owned held =>
    ⟨fun bad => ?badTarget, fun active other => ?granted⟩⟩
  case notOwner =>
    exact completes_refused (exec_grant routed) (judgeGrant_of_judgeOwner (judgeOwner_of_not_owned notOwned))
  case pending =>
    exact completes_refused (exec_grant routed) (judgeGrant_of_judgeOwner (judgeOwner_of_offered owned offered))
  case badTarget => exact completes_refused (exec_grant routed) (judgeGrant_of_bad_target owned held bad)
  case granted =>
    have inMap : m.page < s.pageMap.entries.length := State.lt_of_entry (by simp [held])
    refine completes_passed (exec_grant routed) (judgeGrant_of_good_target owned held active other)
      ⟨State.entryBecomes_setEntry inMap (s.grantRight_entries _ _ _),
        State.answeredWith_answer (s.grantRight_ports _ _ _) p _, fun kept => ?_, fun right written => ?_,
        ((s.changesOnly_grantRight _ _ _).trans (State.changesOnly_answer p _)).mono (by simp)⟩
    · rw [s.grantRight_of_no_downgrade kept]
      exact ⟨rfl, State.remarked_answer rfl p _⟩
    · rw [right, s.grantRight_of_downgrade written]
      exact ⟨State.dropReservations_ofPortOnPage_entries _ _,
        State.parkingSound_answer (State.parkingSound_dropReservations _) p _⟩

/-- Settles O42: the checks in order, then the sets and the reservations that go. -/
theorem revokeTaken : Obligations.RevokeTaken := by
  intro s p m routed
  refine ⟨fun notOwned => ?notOwner, fun owned offered => ?pending, fun owned held =>
    ⟨fun bad => ?badTarget, fun present other => ?revoked⟩⟩
  case notOwner =>
    exact completes_refused (exec_revoke routed) (judgeRevoke_of_judgeOwner (judgeOwner_of_not_owned notOwned))
  case pending =>
    exact completes_refused (exec_revoke routed) (judgeRevoke_of_judgeOwner (judgeOwner_of_offered owned offered))
  case badTarget =>
    refine completes_refused (exec_revoke routed) ?_
    rw [judgeRevoke_of_held owned held, if_neg fun good => bad.elim good.1 good.2]
  case revoked =>
    have inMap : m.page < s.pageMap.entries.length := State.lt_of_entry (by simp [held])
    refine completes_passed (exec_revoke routed) ?_
      ⟨State.entryBecomes_setEntry inMap rfl, State.answeredWith_answer rfl p _,
        State.dropReservations_ofPortOnPage_entries _ _,
        State.parkingSound_answer (State.parkingSound_dropReservations _) p _,
        (((State.changesOnly_setEntry _ _).trans (State.changesOnly_dropReservations _)).trans
          (State.changesOnly_answer p _)).mono (by simp)⟩
    rw [judgeRevoke_of_held owned held, if_pos ⟨present, other⟩]

/-- Settles O43: the checks, then what a page given up leaves with and without clearing. -/
theorem releaseTaken : Obligations.ReleaseTaken := by
  intro s p m routed
  refine ⟨fun notOwned => ?notOwner, fun owned offered => ?pending, fun owned held => ?released⟩
  case notOwner => exact completes_refused (exec_release routed) (judgeOwner_of_not_owned notOwned)
  case pending => exact completes_refused (exec_release routed) (judgeOwner_of_offered owned offered)
  case released =>
    have inMap : m.page < s.pageMap.entries.length := State.lt_of_entry (by simp [held])
    refine completes_passed (exec_release routed) (judgeOwner_of_held owned held)
      ⟨State.entryBecomes_setEntry inMap (s.giveUp_entries _ _),
        State.answeredWith_answer (s.giveUp_ports _ _) p _, ?_,
        State.parkingSound_answer (s.parkingSound_giveUp _ _) p _, fun kept => ?_, fun cleared => ?_,
        ((s.changesOnly_giveUp _ _).trans (State.changesOnly_answer p _)).mono (by simp)⟩
    · rw [State.answerStatus_reservations, State.giveUp_table, State.dropReservations_onPage_entries]
    · simp [State.giveUp_clear, kept]
    · simp [State.giveUp_clear, cleared, ClearEngine.append]

/-- Settles O44: the checks of GRANT and the room of the offer list, then the entry and the notice of the offer. -/
theorem offerTaken : Obligations.OfferTaken := by
  intro s p m routed
  refine ⟨fun notOwned => ?notOwner, fun owned offered => ?pending, fun owned held =>
    ⟨fun bad => ?badTarget, fun active other => ?goodTarget⟩⟩
  case notOwner =>
    exact completes_refused (exec_offer routed)
      (judgeOffer_of_judgeGrant (judgeGrant_of_judgeOwner (judgeOwner_of_not_owned notOwned)))
  case pending =>
    exact completes_refused (exec_offer routed)
      (judgeOffer_of_judgeGrant (judgeGrant_of_judgeOwner (judgeOwner_of_offered owned offered)))
  case badTarget =>
    exact completes_refused (exec_offer routed) (judgeOffer_of_judgeGrant (judgeGrant_of_bad_target owned held bad))
  case goodTarget =>
    have room := judgeOffer_of_passed (judgeGrant_of_good_target owned held active other)
    have inMap : m.page < s.pageMap.entries.length := State.lt_of_entry (by simp [held])
    refine ⟨fun full => completes_refused (exec_offer routed) ?_, fun free =>
      completes_passed (exec_offer routed) ?_
        ⟨State.entryBecomes_setEntry inMap rfl, rfl, rfl, State.answeredWith_answer rfl p _,
          State.remarked_answer rfl p _, (s.changesOnly_makeOffer _ _ _).trans (State.changesOnly_answer p _)⟩⟩
    · rw [room, if_neg (Nat.not_lt.mpr full)]
    · rw [room, if_pos free]

/-- Settles O45: the offer the requester can take, and none. -/
theorem acceptTaken : Obligations.AcceptTaken := by
  intro s p m routed
  refine ⟨fun o offer named offered => ?accepted, fun other => ?noOffer⟩
  case accepted =>
    have taken : s.offerTo m.page p = some o := State.offerTo_eq_some_iff.mpr ⟨offer, offered, named⟩
    have inMap : m.page < s.pageMap.entries.length := State.lt_of_entry (by simp [offered])
    exact ⟨_, exec_accept routed taken, State.entryBecomes_setEntry inMap rfl, rfl,
      s.dropReservations_onPage_entries m.page, State.parkingSound_answer (s.parkingSound_takeOver _ _ _) p _, rfl,
      State.answeredWith_answer rfl p _,
      ((s.changesOnly_takeOver _ _ _).trans (State.changesOnly_answer p _)).mono (by simp)⟩
  case noOffer => exact completes_accept_refused routed other

/-- Settles O46: the withdrawn page is HELD and its offer gone, which is all that a later ACCEPT and a page entry image
look at. -/
theorem withdrawTaken : Obligations.WithdrawTaken := by
  intro s p m routed
  refine ⟨fun owned offered => ?withdrawn, fun notOwned => ?notOwner, fun owned held => ?noOffer⟩
  case withdrawn =>
    have inMap : m.page < s.pageMap.entries.length := State.lt_of_entry (by simp [offered])
    have gone : (((s.removeOffer m.page).backToHeld m.page).answerStatus p m .ok).offerOf m.page = none :=
      State.offerOf_eq_none_of_removed (s := s) rfl
    have held := State.entryBecomes_setEntry (u := ((s.removeOffer m.page).backToHeld m.page).answerStatus p m .ok)
      (e := { s.entry m.page with state := .held }) inMap rfl
    exact completes_passed (exec_withdraw routed) (by simp [judgeWithdraw_of_owned owned, offered])
      ⟨held, rfl, State.answeredWith_answer rfl p _, State.remarked_answer rfl p _,
        ((s.changesOnly_endOffer _).trans (State.changesOnly_answer p _)).mono (by simp),
        fun _ _ again same => completes_accept_refused again (.inr (by simp [same, gone])),
        congrArg PageEntry.state held.1, congrArg (Option.map OfferEntry.toPort) gone⟩
  case notOwner => exact completes_refused (exec_withdraw routed) (judgeWithdraw_of_not_owned notOwned)
  case noOffer => exact completes_refused (exec_withdraw routed) (by simp [judgeWithdraw_of_owned owned, held])

end Sys2Proof.Machine
end

section
/-! PROOF. What a grant does at the table (R90, R92, R108 to R111): the grant is counted, the port stands in GRANTED, and
the request begins its operation or is answered at once. -/
namespace Sys2Proof.Machine

variable {s t : State} {p : Port} {m : Request} {i : Instr}

/-! ### The grant is counted -/

/-- The model's candidates among the ports are those of R105. -/
theorem State.portCandidate_iff_stands (q : Port) : s.portCandidate q = true ↔ s.Stands (.port q) := by
  have awaits (c : CurrentRequest) : c.awaitsGrant = true ↔
      ∃ m k, (c = { msg := m, phase := .routed } ∧ m.kind = some k) ∧ k.isMemory = true := by
    obtain ⟨m, phase⟩ := c
    cases hk : m.kind <;> simp [CurrentRequest.awaitsGrant, hk, and_assoc, and_comm]
  cases hc : (s.port q).current <;>
    simp [State.portCandidate, State.Stands, State.isActive, awaits, hc, and_assoc, and_comm, and_left_comm]

theorem State.normalWaits_iff :
    s.normalWaits = true ↔ ∃ q, s.Stands (.port q) ∧ s.control.items.priority.get q = false := by
  have among (q : Port) : q ∈ Port.all := by cases q <;> decide
  simp [State.normalWaits, State.normalCandidate, State.isPriority, State.portCandidate_iff_stands, among]

theorem State.normalWaits_eq_false
    (h : ∀ q, s.Stands (.port q) → s.control.items.priority.get q = true) : s.normalWaits = false := by
  refine Bool.eq_false_iff.mpr fun waits => ?_
  obtain ⟨q, stands, normal⟩ := State.normalWaits_iff.mp waits
  simp [h q stands] at normal

/-- The model's records and counts after a grant of a port are those of R108 to R110. -/
theorem State.grantCounted_of_arbiter (h : t.arbiter = s.arbiterAfter p) : s.GrantCounted t p := by
  refine ⟨fun priority => ?_, fun normal => ?_, fun priority waits => ?_, fun priority alone => ?_, fun normal => ?_,
    fun queued => ?_, fun empty => ?_⟩ <;> rw [h]
  · simp [State.arbiterAfter, State.isPriority, priority]
  · simp [State.arbiterAfter, State.isPriority, normal]
  · simp [State.arbiterAfter, State.streakAfter, State.isPriority, priority, State.normalWaits_iff.mpr waits]
  · simp [State.arbiterAfter, State.streakAfter, State.normalWaits_eq_false alone]
  · simp [State.arbiterAfter, State.streakAfter, State.isPriority, normal]
  · simp [State.arbiterAfter, State.shareAfter, State.clearCandidate, queued]
  · simp [State.arbiterAfter, State.shareAfter, State.clearCandidate, empty]

/-! ### The port stands in GRANTED -/

theorem State.port_toGranted_same :
    (s.toGranted p m).port p = { s.port p with current := some { msg := m, phase := .granted } } :=
  State.port_setPort_same _ p _

theorem State.othersStand_toGranted : s.OthersStand (s.toGranted p m) p := fun _ hq => State.port_setPort_of_ne _ _ hq

theorem State.changesOnly_toGranted : s.ChangesOnly (s.toGranted p m) [.ports, .arbiter] := by
  intro b hb
  cases b <;> first | rfl | exact absurd (by simp) hb

theorem State.changesOnly_setSequencer (o : Option Operation) : s.ChangesOnly (s.setSequencer o) [.sequencer] := by
  intro b hb
  cases b <;> first | rfl | exact absurd (by simp) hb

/-- An answer of a request in GRANTED leaves its port as an answer of it in ROUTED does (R30). -/
theorem State.answeredWith_toGranted_answer (h : (s.port p).current.isSome) (r : Response) :
    s.AnsweredWith ((s.toGranted p m).answer p r) p r := by
  obtain ⟨c, hc⟩ := Option.isSome_iff_exists.mp h
  have answered : ((s.toGranted p m).port p).answered r = (s.port p).answered r := by
    simp [State.port_toGranted_same, PortRecord.answered, hc]
  refine ⟨?_, fun q hq => ?_⟩
  · rw [State.port_answer_same, answered]
    rfl
  · rw [State.port_answer_of_ne _ r hq, State.othersStand_toGranted q hq]

/-- A request that a check at its grant turns away is answered, and the grant counts (R48, R108, R111). -/
theorem completes_refused_at_grant {k : RequestKind} {st : Status} (routed : s.Routed p m k)
    (h : exec i s = .next ((s.toGranted p m).answerStatus p m st)) :
    Completes i s fun t =>
      s.AnsweredWith t p (plainResponse m st) ∧ s.Remarked t p ∧ s.GrantCounted t p ∧
        s.ChangesOnly t [.ports, .parking, .arbiter] :=
  ⟨_, h, State.answeredWith_toGranted_answer (by simp [routed.1]) _, State.remarked_answer rfl p _,
    State.grantCounted_of_arbiter rfl, (State.changesOnly_toGranted.trans (State.changesOnly_answer p _)).mono (by simp)⟩

/-- A request that passes every check at its grant begins its operation, with the facts of the entry fixed (R47, R111). -/
theorem completes_begun_at_grant {k : RequestKind} (h : exec i s = .next ((s.toGranted p m).beginFor p m k)) :
    Completes i s fun t =>
      t.sequencer = some (operationFor
        { port := p, msg := m, kind := k, guardMode := (s.entry (pageOf m.addr)).guardMode,
          isOwner := (s.entry (pageOf m.addr)).ownedBy p }) ∧
      t.port p = { s.port p with current := some { msg := m, phase := .granted } } ∧ s.OthersStand t p ∧
      s.GrantCounted t p ∧ s.ChangesOnly t [.ports, .arbiter, .sequencer] :=
  ⟨_, h, rfl, State.port_toGranted_same, State.othersStand_toGranted, State.grantCounted_of_arbiter rfl,
    State.changesOnly_toGranted.trans (State.changesOnly_setSequencer _)⟩

/-! ### The grants of LOCKED-READ and COND-WRITE -/

theorem State.grantable_eq {k : RequestKind} (chosen : s.arbiterChoice = some (.port p)) (routed : s.Routed p m k) :
    s.grantable p k = some m := by
  rw [State.grantable, if_pos chosen, routed.eq]

/-- The NO-ROOM check passes a port with a place to spare, or with the word already (R90). -/
theorem noRoom_eq_false_iff (entries : List Reservation) (p : Port) (a : Nat) :
    noRoom entries p a = false ↔ (reservationsOf entries p).length < 2 ∨ heldBy entries p a = true := by
  simp only [noRoom, Config.reservationsPerPort, Bool.and_eq_false_iff, decide_eq_false_iff_not, Nat.not_le,
    Bool.not_eq_false']

theorem noRoom_eq_true {entries : List Reservation} {p : Port} {a : Nat}
    (full : 2 ≤ (reservationsOf entries p).length) (notHeld : heldBy entries p a = false) : noRoom entries p a = true := by
  simp [noRoom, Config.reservationsPerPort, full, notHeld]

/-- A granted LOCKED-READ that the page map passes is judged by the NO-ROOM check alone (R90, R111). -/
theorem exec_lockedRead (chosen : s.arbiterChoice = some (.port p)) (routed : s.Routed p m .lockedRead)
    (passed : accessCheck (s.entry (pageOf m.addr)) p .lockedRead (m.judgedAction .lockedRead) = none) :
    exec (.lockedRead p) s = .next (if noRoom s.table.entries p m.addr then (s.toGranted p m).answerStatus p m .noRoom
      else (s.toGranted p m).beginFor p m .lockedRead) := by
  have access : (s.toGranted p m).checkAccess p m .lockedRead = none := passed
  change execLockedRead p s = _
  rw [execLockedRead, State.grantable_eq chosen routed]
  dsimp only [State.grantLockedRead]
  rw [access]
  rfl

/-- A granted COND-WRITE that the page map passes spends its entry, or has none (R92, R111). -/
theorem exec_condWrite (chosen : s.arbiterChoice = some (.port p)) (routed : s.Routed p m .condWrite)
    (passed : accessCheck (s.entry (pageOf m.addr)) p .condWrite (m.judgedAction .condWrite) = none) :
    exec (.condWrite p) s = .next (if heldBy s.table.entries p m.addr then
        ((s.toGranted p m).dropReservations (Reservation.isOn p m.addr)).beginFor p m .condWrite
      else (s.toGranted p m).answerStatus p m .lapsed) := by
  have access : (s.toGranted p m).checkAccess p m .condWrite = none := passed
  change execCondWrite p s = _
  rw [execCondWrite, State.grantable_eq chosen routed]
  dsimp only [State.grantCondWrite]
  rw [access]
  rfl

theorem State.dropReservations_isOn_entries (p : Port) (a : Nat) :
    (s.dropReservations (Reservation.isOn p a)).table.entries =
      s.table.entries.filter (fun e => !(decide (e.port = p) && decide (e.addr = a))) := rfl

/-- Settles O22, by the NO-ROOM check. -/
theorem lockedReadAtGrant : Obligations.LockedReadAtGrant := by
  intro s p m chosen routed passed
  have answer := exec_lockedRead chosen routed passed
  refine ⟨fun room => completes_begun_at_grant ?begun, fun full notHeld => completes_refused_at_grant routed ?noRoom⟩
  case begun => simpa [(noRoom_eq_false_iff _ _ _).mpr room] using answer
  case noRoom => simpa [noRoom_eq_true full notHeld] using answer

/-- Settles O23, by the entry of the port on the word. -/
theorem condWriteAtGrant : Obligations.CondWriteAtGrant := by
  intro s p m chosen routed passed
  have answer := exec_condWrite chosen routed passed
  refine ⟨fun held => ?spent, fun notHeld => completes_refused_at_grant routed ?lapsed⟩
  case spent =>
    rw [if_pos held] at answer
    exact ⟨_, answer, rfl, State.port_toGranted_same, State.othersStand_toGranted, State.dropReservations_isOn_entries _ _,
      (State.parkingSound_congr rfl rfl).mpr (State.parkingSound_dropReservations _), State.grantCounted_of_arbiter rfl,
      ((State.changesOnly_toGranted.trans (State.changesOnly_dropReservations _)).trans
        (State.changesOnly_setSequencer _)).mono (by simp)⟩
  case lapsed => simpa [notHeld] using answer

end Sys2Proof.Machine
end

section
/-! PROOF. UNLOCK (R97), and an UNLOCK that finds its entry removed. -/
namespace Sys2Proof.Machine

variable {s : State} {p : Port} {m : Request}

theorem exec_unlock_of_held (routed : s.Routed p m .unlock) (held : heldBy s.table.entries p m.addr = true) :
    exec (.unlock p) s = .next ((s.dropReservations (Reservation.isOn p m.addr)).answerStatus p m .ok) := by
  change execUnlock p s = _
  rw [execUnlock, routed.eq]
  exact if_pos held

theorem completes_unlock_lapsed (routed : s.Routed p m .unlock) (notHeld : heldBy s.table.entries p m.addr = false) :
    Completes (.unlock p) s fun t => s.RefusedWith t p m .lapsed := by
  refine ⟨s.answerStatus p m .lapsed, ?_, State.refusedWith_answerStatus p m .lapsed⟩
  change execUnlock p s = _
  rw [execUnlock, routed.eq]
  exact if_neg (Bool.eq_false_iff.mp notHeld)

/-- A port holds a word exactly when an entry of the port is on it (R83). -/
theorem heldBy_iff {entries : List Reservation} {p : Port} {a : Nat} :
    heldBy entries p a = true ↔ ∃ e ∈ entries, e.addr = a ∧ e.port = p := by
  simp [heldBy]

/-- Once every entry of the port on the word is dropped, the port does not hold it. -/
theorem heldBy_dropReservations {a : Nat} {gone : Reservation → Bool}
    (covers : ∀ e : Reservation, e.addr = a → e.port = p → gone e = true) :
    heldBy (s.dropReservations gone).table.entries p a = false := by
  refine Bool.eq_false_iff.mpr fun held => ?_
  obtain ⟨e, stays, onWord, ofPort⟩ := heldBy_iff.mp held
  have notGone := ((s.mem_dropReservations gone e).mp stays).2
  simp [covers e onWord ofPort] at notGone

/-- Settles O39: with the entry it is taken, in the lifetime that runs out or by the UNLOCK, whichever comes first. -/
theorem unlockTaken : Obligations.UnlockTaken := by
  refine fun s p m routed => ⟨fun held => ⟨?taken, ?expired⟩, completes_unlock_lapsed routed⟩
  case taken =>
    exact ⟨_, exec_unlock_of_held routed held, State.answeredWith_answer rfl p _,
      State.dropReservations_isOn_entries _ _, heldBy_dropReservations (by simp +contextual [Reservation.isOn]),
      State.parkingSound_answer (State.parkingSound_dropReservations _) p _,
      ((State.changesOnly_dropReservations _).trans (State.changesOnly_answer p _)).mono (by simp)⟩
  case expired =>
    obtain ⟨e, stands, onWord, -⟩ := heldBy_iff.mp held
    exact ⟨_, exec_reservationLifetimeRunsOut ⟨e, stands, onWord⟩,
      completes_unlock_lapsed routed (heldBy_dropReservations fun _ onWord _ => decide_eq_true onWord)⟩

end Sys2Proof.Machine
end

section
/-! PROOF. A completion step by step (R124): the write lands, the reports are made, the port is served; and what the
completion of a LOCKED-READ leaves in the reservation table (R91). -/
namespace Sys2Proof.Machine

variable {s u : State} {o : Operation} {t : PortTerms} {d : DecodeResult} {p q : Port} {a : Nat}

theorem State.completing_eq {k : OpKind} (h : s.InFlight o k) : s.completing k = some o := by
  simp [State.completing, h.1, h.2.1, h.2.2]

theorem exec_readOpCompletes (h : s.InFlight o .read) : exec .readOpCompletes s = .next (s.complete o) := by
  change execReadOpCompletes s = _
  rw [execReadOpCompletes, State.completing_eq h]

/-! ### The write lands (R3) -/

/-- The write touches the array alone. -/
theorem State.landWrite_eq (s : State) (o : Operation) : s.landWrite o = s.setArray (s.landWrite o).array := by
  unfold State.landWrite
  split <;> rfl

theorem State.changesOnly_landWrite : s.ChangesOnly (s.landWrite o) [.array] := by
  rw [State.landWrite_eq]
  intro b hb
  cases b <;> first | rfl | exact absurd (by simp) hb

/-- In a canonical array the word settled, when there is one, is what its address then reads as. -/
theorem State.wordBecomes_landWrite (sound : s.ArraySound) (target : o.target = .word a)
    (h : u.array = (s.landWrite o).array) : s.WordBecomes u a (o.settled.map encode) := by
  cases settled : o.settled with
  | none => simp [State.WordBecomes, h, State.landWrite, settled]
  | some g =>
    have reads (b : Nat) : u.array.read b = if b = a then encode g else s.array.read b := by
      simpa [h, State.landWrite, settled, target] using Memory.read_write sound a b (encode g)
    exact ⟨by simp [reads], fun b hb => by simp [reads, hb]⟩

/-! ### The reports (R121, R123) -/

theorem PageEntry.turnsWeak_iff (e : PageEntry) (threshold : Nat) :
    e.turnsWeak threshold = true ↔ e.corrected + 1 = threshold ∧ e.weak = false := by
  simp [PageEntry.turnsWeak]

/-- A page is weak after a counted correction when it was, or when the count reaches the threshold (R52). -/
theorem PageEntry.countCorrection_eq (e : PageEntry) (threshold : Nat) :
    e.countCorrection threshold =
      { e with corrected := min 255 (e.corrected + 1), weak := e.weak || decide (e.corrected + 1 = threshold) } := by
  cases weak : e.weak <;> simp [PageEntry.countCorrection, PageEntry.turnsWeak, weak]

theorem State.changesOnly_reportSingle (syn : BitVec 6) (sub : Subclass) (f : Finder) :
    s.ChangesOnly (s.reportSingle a syn sub f) [.entries, .asked] := by
  unfold State.reportSingle
  dsimp only
  split
  · exact (State.changesOnly_setEntry _ _).trans (State.changesOnly_ask _)
  · exact (State.changesOnly_ask _).mono (by simp)

theorem State.changesOnly_report (f : Finder) : s.ChangesOnly (s.report a d f) [.entries, .asked] := by
  unfold State.report
  split
  · exact fun b _ => by cases b <;> rfl
  · exact State.changesOnly_reportSingle _ _ _
  all_goals exact (State.changesOnly_ask _).mono (by simp)

/-- The reports the model makes are those of R121 and R123, by the class of the word. -/
theorem State.reportsMade_report {f : Finder} (inMap : pageOf a < s.pageMap.entries.length)
    (entries : u.pageMap.entries = (s.report a d f).pageMap.entries)
    (asked : u.log.asked = (s.report a d f).log.asked) : s.ReportsMade u a f d := by
  have counted (sub : Subclass) (hsub : sub.counted = true) (bad : Nat) (hd : d.cls = .single sub bad) :
      s.EntryBecomes u (pageOf a) ((s.entry (pageOf a)).countCorrection s.control.items.weakThreshold) ∧
        u.log.asked = s.log.asked ++
          ((if s.control.items.logging then [.corrected a (pageOf a) d.syndrome sub f (s.entry (pageOf a)).info] else []) ++
            (if (s.entry (pageOf a)).turnsWeak s.control.items.weakThreshold then
              [.weakPage (pageOf a) (s.entry (pageOf a)).info] else [])) :=
    ⟨State.entryBecomes_setEntry inMap (by simp [entries, State.report, hd, State.reportSingle, hsub]),
      by simp [asked, State.report, hd, State.reportSingle, hsub]⟩
  unfold State.ReportsMade
  dsimp only
  rcases hd : d.cls with _ | ⟨sub, bad⟩ | _ | _
  · simp [entries, asked, State.report, hd]
  · cases sub
    case check => simp [entries, asked, State.report, hd, State.reportSingle, Subclass.counted]
    all_goals
      obtain ⟨becomes, handed⟩ := counted _ rfl bad hd
      rw [PageEntry.countCorrection_eq] at becomes
      exact ⟨becomes, by simpa [PageEntry.turnsWeak_iff] using handed⟩
  · simp [entries, asked, State.report, hd, State.reportUncorrectable]
  · simp [entries, asked, State.report, hd, State.reportUncorrectable]

/-- The reports leave the rights in the page where they are (R51, R52). -/
theorem State.ReportsMade.mayWrite_eq {f : Finder} (h : s.ReportsMade u a f d) :
    (u.entry (pageOf a)).mayWrite p = (s.entry (pageOf a)).mayWrite p := by
  unfold State.ReportsMade at h
  dsimp only at h
  rcases hd : d.cls with _ | ⟨sub, bad⟩ | _ | _
  case single =>
    cases sub <;> simp only [hd] at h
    case check => rw [State.entry_congr h.1]
    all_goals
      obtain ⟨⟨becomes, -⟩, -⟩ := h
      rw [becomes]
      rfl
  all_goals
    simp only [hd] at h
    rw [State.entry_congr h.1]

/-! ### The reservation effect (R91) -/

theorem State.changesOnly_reserve : s.ChangesOnly (s.reserve p a d) [.reservations, .parking] := by
  intro b hb
  cases b
  case reservations | parking => exact absurd (by simp) hb
  all_goals simp [State.SameBlock]

/-- A LOCKED-READ has no effect on the table when the read was uncorrectable, under the orphan mark, or when its port
may no longer write the page. -/
theorem State.reserve_of_barred
    (h : d.uncorrectable = true ∨ (s.port p).orphan = true ∨ (s.entry (pageOf a)).mayWrite p = false) :
    s.reserve p a d = s := by
  refine if_pos ?_
  simpa [or_assoc] using h

section
variable (correctable : d.uncorrectable = false) (served : (s.port p).orphan = false)
  (writable : (s.entry (pageOf a)).mayWrite p = true)
include correctable served writable

theorem State.reserve_of_held (held : heldBy s.table.entries p a = true) :
    s.reserve p a d = s.setTable { s.table with
      entries := restartTimers s.table.entries p a s.control.items.reservationLifetime } := by
  simp [State.reserve, correctable, served, writable, held]

theorem State.reserve_of_not_held (notHeld : heldBy s.table.entries p a = false) :
    s.reserve p a d = s.setReservations (s.table.entries ++
      [{ port := p, addr := a, timer := .running s.control.items.reservationLifetime }]) := by
  simp [State.reserve, correctable, served, writable, notHeld]

end

/-- A restart moves no entry, so it parks nobody and frees nobody (R86). -/
theorem heldByOther_restartTimers (l : List Reservation) (p q : Port) (a b lifetime : Nat) :
    heldByOther (restartTimers l p a lifetime) q b = heldByOther l q b := by
  simp only [heldByOther, restartTimers, List.any_map]
  congr 1
  funext e
  dsimp only [Function.comp]
  split <;> rfl

/-- The parking mark looks at the entries only through the words other ports hold (R86). -/
theorem parkingMark_congr {l l' : List Reservation} (h : ∀ b, heldByOther l q b = heldByOther l' q b)
    (current : Option CurrentRequest) : parkingMark l q current = parkingMark l' q current := by
  simp only [parkingMark, h]

/-- The reservation effect keeps the marks right (R87). -/
theorem State.parkingSound_reserve (sound : s.ParkingSound) : (s.reserve p a d).ParkingSound := by
  unfold State.reserve
  dsimp only
  split
  · exact sound
  · split
    · exact State.parkingSound_iff.mpr fun q => (State.parkingSound_iff.mp sound q).trans
        (parkingMark_congr (fun b => (heldByOther_restartTimers _ p q a b _).symm) _)
    · exact State.parkingSound_iff.mpr fun q => State.setReservations_parking s _ q

/-! ### The answer (R33, R124) -/

theorem State.giveAnswer_of_orphan (r : Response) (h : (s.port t.port).orphan = true) :
    s.giveAnswer t r = s.setPort t.port { s.port t.port with orphan := false } := if_pos h

theorem State.giveAnswer_of_not_orphan (r : Response) (h : (s.port t.port).orphan = false) :
    s.giveAnswer t r = s.answer t.port r := if_neg (Bool.eq_false_iff.mp h)

theorem State.giveAnswer_reservations (r : Response) : (s.giveAnswer t r).table.entries = s.table.entries := by
  unfold State.giveAnswer
  split <;> rfl

theorem State.changesOnly_giveAnswer (r : Response) : s.ChangesOnly (s.giveAnswer t r) [.ports, .parking] := by
  unfold State.giveAnswer
  split
  · intro b hb
    cases b <;> first | rfl | exact absurd (by simp) hb
  · exact State.changesOnly_answer _ _

/-- Under the orphan mark nothing is reserved and nobody is answered; the mark is removed (R33, R91). -/
theorem State.reserve_giveAnswer_of_orphan (r : Response) (h : (s.port t.port).orphan = true) :
    (s.reserve t.port a d).giveAnswer t r = s.setPort t.port { s.port t.port with orphan := false } := by
  rw [State.reserve_of_barred (.inr (.inl h)), State.giveAnswer_of_orphan r h]

theorem State.reserve_giveAnswer_of_not_orphan (r : Response) (h : (s.port t.port).orphan = false) :
    (s.reserve t.port a d).giveAnswer t r = (s.reserve t.port a d).answer t.port r :=
  State.giveAnswer_of_not_orphan r (by rwa [State.port_congr (s.reserve_ports t.port a d)])

/-! ### Between the reports and the service of a port -/

/-- The state of a completion once its reports are made, before a port is served (R124). -/
def State.reported (s : State) (o : Operation) : State := (s.landWrite o).reportOf o

@[simp] theorem State.reported_ports : (s.reported o).ports = s.ports := by simp [State.reported]
@[simp] theorem State.reported_table : (s.reported o).table = s.table := by simp [State.reported]
@[simp] theorem State.reported_control : (s.reported o).control = s.control := by simp [State.reported]
@[simp] theorem State.reported_array : (s.reported o).array = (s.landWrite o).array := by simp [State.reported]
@[simp] theorem State.reported_port : (s.reported o).port p = s.port p := State.port_congr State.reported_ports p

/-- The completion of a LOCKED-READ, from its reports on. -/
theorem State.complete_of_lockedRead (served : o.served = .port t) (read : o.decoded = some d)
    (kind : t.kind = .lockedRead) :
    s.complete o =
      (((s.reported o).reserve t.port t.msg.addr d).giveAnswer t (responseOf o t)).setSequencer none := by
  simp [State.complete, State.reported, State.servePort, State.reserveOf, served, read, kind]

section
variable (target : o.target = .word a) (read : o.decoded = some d)
include target read

theorem State.reported_eq : s.reported o = (s.landWrite o).report a d o.finder := by
  simp [State.reported, State.reportOf, target, read]

theorem State.changesOnly_reported : s.ChangesOnly (s.reported o) [.array, .entries, .asked] := by
  rw [State.reported_eq target read]
  exact State.changesOnly_landWrite.trans (State.changesOnly_report _)

/-- The write that lands first is nothing to the reports. -/
theorem State.reportsMade_reported (inMap : pageOf a < s.pageMap.entries.length)
    (entries : u.pageMap.entries = (s.reported o).pageMap.entries) (asked : u.log.asked = (s.reported o).log.asked) :
    s.ReportsMade u a o.finder d := by
  rw [State.reported_eq target read, State.landWrite_eq] at entries asked
  exact State.reportsMade_report (s := s.setArray (s.landWrite o).array) inMap entries asked

end

/-- Settles O33: from the state the reports leave, the rows of R91 one by one, then the answer. -/
theorem lockedReadReservation : Obligations.LockedReadReservation := by
  intro s o t d inFlight served target read kind inMap sound
  have finder : o.finder = .port t.port := by simp [Operation.finder, served]
  have reported {u : State} (entries : u.pageMap.entries = (s.reported o).pageMap.entries)
      (asked : u.log.asked = (s.reported o).log.asked) : s.ReportsMade u t.msg.addr (.port t.port) d :=
    finder ▸ State.reportsMade_reported target read inMap entries asked
  have rights : ((s.reported o).entry (pageOf t.msg.addr)).mayWrite t.port =
    (s.entry (pageOf t.msg.addr)).mayWrite t.port := (reported rfl rfl).mayWrite_eq
  have reservations := State.giveAnswer_reservations (s := (s.reported o).reserve t.port t.msg.addr d) (t := t)
    (responseOf o t)
  refine ⟨_, exec_readOpCompletes inFlight, ?_⟩
  rw [State.complete_of_lockedRead served read kind]
  refine ⟨rfl, State.wordBecomes_landWrite sound target (by simp), reported (by simp) (by simp),
    fun answered => ?answered, fun orphan => ?orphan, fun uncorrectable => ?uncorrectable, fun lost => ?lost,
    fun correctable answered writable => ⟨fun held => ?restarted, fun notHeld => ?entered⟩,
    fun answered marked => ?marked,
    (((State.changesOnly_reported target read).trans State.changesOnly_reserve).trans
      ((State.changesOnly_giveAnswer _).trans (State.changesOnly_setSequencer _))).mono (by simp)⟩
  case answered =>
    rw [State.reserve_giveAnswer_of_not_orphan _ (by simpa using answered)]
    exact State.answeredWith_answer (by simp) _ _
  case orphan =>
    rw [State.reserve_giveAnswer_of_orphan _ (by simpa using orphan), State.reported_port]
    exact ⟨State.port_setPort_same _ _ _, fun q hq => (State.port_setPort_of_ne _ _ hq).trans State.reported_port,
      State.reported_table⟩
  case uncorrectable =>
    exact reservations.trans (by simp [State.reserve_of_barred (.inl uncorrectable)])
  case lost =>
    exact reservations.trans (by simp [State.reserve_of_barred (.inr (.inr (rights.trans lost)))])
  case restarted =>
    refine reservations.trans ?_
    rw [State.reserve_of_held correctable (by simpa using answered) (rights.trans writable) (by simpa using held)]
    simp [restartTimers, Reservation.isOn]
  case entered =>
    have entry := State.reserve_of_not_held correctable (by simpa using answered) (rights.trans writable)
      (by simpa using notHeld)
    refine ⟨reservations.trans (by simp [entry]), ?_⟩
    rw [State.reserve_giveAnswer_of_not_orphan _ (by simpa using answered), entry]
    exact (State.parkingSound_congr rfl rfl).mpr (State.parkingSound_setReservations_answer _ _ _)
  case marked =>
    rw [State.reserve_giveAnswer_of_not_orphan _ (by simpa using answered)]
    have before : (s.reported o).ParkingSound :=
      (State.parkingSound_congr State.reported_table State.reported_ports).mpr marked
    exact (State.parkingSound_congr rfl rfl).mpr (State.parkingSound_answer (State.parkingSound_reserve before) _ _)

end Sys2Proof.Machine
end

section
/-! PROOF. Whom the arbiter grants (R105 to R108): the round-robin of a class finds the candidate that the search comes to
first, and the seven steps of the grant order lead to the candidates one by one. -/
namespace Sys2Proof.Machine

variable {s : State} {p last : Port} {c : Port → Bool}

/-! ### The round-robin (R108) -/

theorem mem_portsAfter (last q : Port) : q ∈ portsAfter last := by
  cases last <;> cases q <;> decide

/-- The search comes to the ports in the order of their distances. -/
theorem portsAfter_pairwise (last : Port) :
    (portsAfter last).Pairwise fun q r => searchDistance last q < searchDistance last r := by
  cases last <;> decide

theorem roundRobin_of_firstAfter (first : FirstAfter last p fun q => c q = true) : roundRobin last c = some p := by
  obtain ⟨candidate, nearest⟩ := first
  obtain ⟨before, behind, order⟩ := List.append_of_mem (mem_portsAfter last p)
  have nearer : ∀ q ∈ before, searchDistance last q < searchDistance last p := by
    have sorted := portsAfter_pairwise last
    rw [order, List.pairwise_append] at sorted
    obtain ⟨-, -, across⟩ := sorted
    exact fun q hq => across q hq p (by simp)
  refine List.find?_eq_some_iff_append.mpr ⟨candidate, before, behind, order, fun q hq => ?_⟩
  have notCandidate : ¬ c q = true := fun hc => absurd (nearer q hq) (Nat.not_lt.mpr (nearest q hc))
  simpa using notCandidate

theorem roundRobin_eq_none_iff : roundRobin last c = none ↔ ∀ q, c q = false := by
  simp [roundRobin, mem_portsAfter]

/-! ### The ports of the two classes -/

theorem State.priorityCandidate_iff (q : Port) :
    s.priorityCandidate q = true ↔ s.Stands (.port q) ∧ s.isPriority q = true := by
  simp [State.priorityCandidate, State.portCandidate_iff_stands]

theorem State.normalCandidate_iff (q : Port) :
    s.normalCandidate q = true ↔ s.Stands (.port q) ∧ s.isPriority q = false := by
  simp [State.normalCandidate, State.portCandidate_iff_stands]

/-- Step 3 is not passed over below 8, nor when no port of the normal class waits (R107). -/
theorem State.priorityPassedOver_eq_false_iff :
    s.priorityPassedOver = false ↔ s.arbiter.streak < 8 ∨ ∀ q, s.Stands (.port q) → s.isPriority q = true := by
  have waits : s.normalWaits = false ↔ ∀ q, s.Stands (.port q) → s.isPriority q = true := by
    rw [← Bool.not_eq_true, State.normalWaits_iff]
    simp [State.isPriority]
  rw [State.priorityPassedOver, Bool.and_eq_false_iff, waits]
  simp

/-- Step 3 chooses nobody when it is passed over or no port of the priority class is a candidate (R107). -/
theorem State.priorityChoice_eq_none_iff :
    s.priorityChoice = none ↔ s.priorityPassedOver = true ∨ ∀ q, s.Stands (.port q) → s.isPriority q = false := by
  unfold State.priorityChoice
  split
  next passed => simp [passed]
  next passed => simp [passed, roundRobin_eq_none_iff, ← Bool.not_eq_true, State.priorityCandidate_iff]

theorem State.normalChoice_eq_none_iff :
    s.normalChoice = none ↔ ∀ q, s.Stands (.port q) → s.isPriority q = true := by
  simp [State.normalChoice, roundRobin_eq_none_iff, ← Bool.not_eq_true, State.normalCandidate_iff]

/-- Steps 3 and 4 choose a port that stands, and one of the priority class only where step 3 is not passed over. -/
theorem State.portChoice_some (h : s.portChoice = some p) :
    s.Stands (.port p) ∧ (s.isPriority p = true → s.priorityPassedOver = false) := by
  unfold State.portChoice at h
  split at h
  next q chosen =>
    cases h
    unfold State.priorityChoice at chosen
    split at chosen
    · cases chosen
    next passed =>
      obtain ⟨stands, -⟩ := (State.priorityCandidate_iff p).mp (List.find?_some chosen)
      exact ⟨stands, fun _ => by simpa using passed⟩
  next =>
    obtain ⟨stands, normal⟩ := (State.normalCandidate_iff p).mp (List.find?_some h)
    exact ⟨stands, fun priority => by simp [normal] at priority⟩

/-- Steps 3 and 4 choose nobody exactly when no port is a candidate. -/
theorem State.portChoice_eq_none_iff : s.portChoice = none ↔ ∀ q, ¬ s.Stands (.port q) := by
  constructor
  · intro h q stands
    unfold State.portChoice at h
    split at h
    · cases h
    next noPriority =>
      have allPriority := State.normalChoice_eq_none_iff.mp h
      have notPassed := State.priorityPassedOver_eq_false_iff.mpr (.inr allPriority)
      have allNormal := (State.priorityChoice_eq_none_iff.mp noPriority).resolve_left (by simp [notPassed])
      exact absurd (allPriority q stands) (by simp [allNormal q stands])
  · intro none_stands
    cases h : s.portChoice with
    | none => rfl
    | some q => exact absurd (State.portChoice_some h).1 (none_stands q)

/-! ### The seven steps (R107) -/

theorem State.arbiterChoice_of_idle (idle : s.sequencer = none) : s.arbiterChoice = s.grantOrder := by
  rw [State.arbiterChoice, idle]

/-- While an operation is in flight nobody is chosen (R106). -/
theorem State.arbiterChoice_of_busy (busy : s.sequencer ≠ none) : s.arbiterChoice = none := by
  obtain ⟨o, ho⟩ := Option.ne_none_iff_exists'.mp busy
  rw [State.arbiterChoice, ho]

theorem State.grantOrder_of_urgent (urgent : 6 ≤ s.refresh.owed) : s.grantOrder = some .refreshController :=
  if_pos urgent

theorem State.grantOrder_of_share (calm : s.refresh.owed < 6) (queued : s.clear.queue ≠ [])
    (share : 16 ≤ s.arbiter.clearShare) : s.grantOrder = some .clearEngine := by
  simp [State.grantOrder, State.clearCandidate, calm, queued, share]

/-- Steps 3 to 7, where neither refresh nor the clear engine comes first. -/
theorem State.grantOrder_of_turn (calm : s.refresh.owed < 6) (turn : s.clear.queue = [] ∨ s.arbiter.clearShare < 16) :
    s.grantOrder = (s.portChoice.map Candidate.port).or s.engineChoice := by
  have notShared : ¬ (s.clearCandidate && decide (Config.shareLimit ≤ s.arbiter.clearShare)) = true := by
    simpa [State.clearCandidate, Decidable.or_iff_not_imp_left] using turn
  rw [State.grantOrder, if_neg (Nat.not_le.mpr calm), if_neg notShared]
  cases s.portChoice <;> rfl

/-- The steps of the grant order, one by one, and what each needs. -/
theorem State.grantOrder_cases (s : State) :
    (6 ≤ s.refresh.owed ∧ s.grantOrder = some .refreshController) ∨
    (s.refresh.owed < 6 ∧ s.clear.queue ≠ [] ∧ 16 ≤ s.arbiter.clearShare ∧ s.grantOrder = some .clearEngine) ∨
    (s.refresh.owed < 6 ∧ (s.clear.queue = [] ∨ s.arbiter.clearShare < 16) ∧
      s.grantOrder = (s.portChoice.map Candidate.port).or s.engineChoice) := by
  rcases Nat.lt_or_ge s.refresh.owed 6 with calm | urgent
  · by_cases turn : s.clear.queue = [] ∨ s.arbiter.clearShare < 16
    · exact .inr (.inr ⟨calm, turn, State.grantOrder_of_turn calm turn⟩)
    · obtain ⟨queued, share⟩ := not_or.mp turn
      have share := Nat.not_lt.mp share
      exact .inr (.inl ⟨calm, queued, share, State.grantOrder_of_share calm queued share⟩)
  · exact .inl ⟨urgent, State.grantOrder_of_urgent urgent⟩

theorem State.engineChoice_of_queued (queued : s.clear.queue ≠ []) : s.engineChoice = some .clearEngine := by
  simp [State.engineChoice, State.clearCandidate, queued]

theorem State.engineChoice_of_owed (empty : s.clear.queue = []) (owed : 1 ≤ s.refresh.owed) :
    s.engineChoice = some .refreshController := by
  simp [State.engineChoice, State.clearCandidate, empty, owed]

/-- Step 7: nothing to clear and no refresh owed, so that a scrub is all that can be granted. -/
theorem State.engineChoice_of_rest (empty : s.clear.queue = []) (owed : s.refresh.owed = 0) :
    s.engineChoice = if s.scrub.pending then some .scrubEngine else none := by
  simp [State.engineChoice, State.clearCandidate, empty, owed]

/-- Steps 5 to 7 choose an engine, and one that stands. -/
theorem State.engineChoice_some {c : Candidate} (h : s.engineChoice = some c) : s.Stands c ∧ ∀ q, c ≠ .port q := by
  by_cases empty : s.clear.queue = []
  · rcases Nat.eq_zero_or_pos s.refresh.owed with none_owed | owed
    · rw [State.engineChoice_of_rest empty none_owed] at h
      obtain ⟨pending, rfl⟩ : s.scrub.pending = true ∧ Candidate.scrubEngine = c := by simpa using h
      exact ⟨pending, by simp⟩
    · rw [State.engineChoice_of_owed empty owed] at h
      cases h
      exact ⟨owed, by simp⟩
  · rw [State.engineChoice_of_queued empty] at h
    cases h
    exact ⟨empty, by simp⟩

/-- Whom the grant order chooses is a candidate (R105). -/
theorem State.stands_of_grantOrder {c : Candidate} (h : s.grantOrder = some c) : s.Stands c := by
  rcases s.grantOrder_cases with ⟨urgent, order⟩ | ⟨-, queued, -, order⟩ | ⟨-, -, order⟩ <;> rw [order] at h
  · cases h
    exact Nat.le_trans (by decide) urgent
  · cases h
    exact queued
  · rcases Option.or_eq_some_iff.mp h with port | ⟨-, engine⟩
    · obtain ⟨p, chosen, rfl⟩ := Option.map_eq_some_iff.mp port
      exact (State.portChoice_some chosen).1
    · exact (State.engineChoice_some engine).1

/-- The grant order chooses nobody exactly when there is no candidate (R105, R106). -/
theorem State.grantOrder_eq_none_iff : s.grantOrder = none ↔ ∀ c, ¬ s.Stands c := by
  constructor
  · intro h
    rcases s.grantOrder_cases with ⟨-, order⟩ | ⟨-, -, -, order⟩ | ⟨-, -, order⟩ <;> rw [order] at h
    · cases h
    · cases h
    obtain ⟨noPort, noEngine⟩ := Option.or_eq_none_iff.mp h
    have empty : s.clear.queue = [] := by
      refine Classical.byContradiction fun queued => ?_
      simp [State.engineChoice_of_queued queued] at noEngine
    have noneOwed : s.refresh.owed = 0 := by
      refine Classical.byContradiction fun owed => ?_
      simp [State.engineChoice_of_owed empty (Nat.pos_of_ne_zero owed)] at noEngine
    intro c
    cases c with
    | port q => exact State.portChoice_eq_none_iff.mp (by simpa using noPort) q
    | refreshController => simp [State.Stands, noneOwed]
    | clearEngine => simp [State.Stands, empty]
    | scrubEngine => simpa [State.Stands, State.engineChoice_of_rest empty noneOwed] using noEngine
  · intro none_stands
    cases h : s.grantOrder with
    | none => rfl
    | some c => exact absurd (State.stands_of_grantOrder h) (none_stands c)

/-- A port is chosen by steps 3 and 4, the first two steps passed (R107). -/
theorem State.grantOrder_eq_port (h : s.grantOrder = some (.port p)) :
    (s.clear.queue = [] ∨ s.arbiter.clearShare < 16) ∧ s.portChoice = some p := by
  rcases s.grantOrder_cases with ⟨-, order⟩ | ⟨-, -, -, order⟩ | ⟨-, turn, order⟩ <;> rw [order] at h
  · cases h
  · cases h
  refine ⟨turn, ?_⟩
  rcases Option.or_eq_some_iff.mp h with port | ⟨-, engine⟩
  · simpa using port
  · exact absurd rfl ((State.engineChoice_some engine).2 p)

/-- A grant of a port leaves both counts in range: where the clear engine is a candidate its share is below 16, and a port
of the priority class is granted only where step 3 is not passed over (R107, R109, R110). -/
theorem State.arbiterChoice_eq_port (h : s.arbiterChoice = some (.port p)) :
    (s.clear.queue = [] ∨ s.arbiter.clearShare < 16) ∧ (s.isPriority p = true → s.priorityPassedOver = false) := by
  have idle : s.sequencer = none := by
    refine Classical.byContradiction fun busy => ?_
    simp [State.arbiterChoice_of_busy busy] at h
  rw [State.arbiterChoice_of_idle idle] at h
  obtain ⟨turn, chosen⟩ := State.grantOrder_eq_port h
  exact ⟨turn, (State.portChoice_some chosen).2⟩

/-! ### The ports (R107, R108) -/

/-- Step 3 chooses the first of the priority class, unless it is passed over. -/
theorem State.portChoice_of_priority
    (notPassed : s.arbiter.streak < 8 ∨ ∀ q, s.Stands (.port q) → s.isPriority q = true)
    (first : FirstAfter s.arbiter.lastPriority p fun q => s.Stands (.port q) ∧ s.isPriority q = true) :
    s.portChoice = some p := by
  simp only [← State.priorityCandidate_iff] at first
  have chosen : s.priorityChoice = some p := by
    rw [State.priorityChoice, State.priorityPassedOver_eq_false_iff.mpr notPassed]
    exact roundRobin_of_firstAfter first
  rw [State.portChoice, chosen]

/-- Step 4 chooses the first of the normal class, where step 3 chooses nobody. -/
theorem State.portChoice_of_normal
    (passed : 8 ≤ s.arbiter.streak ∨ ∀ q, s.Stands (.port q) → s.isPriority q = false)
    (first : FirstAfter s.arbiter.lastNormal p fun q => s.Stands (.port q) ∧ s.isPriority q = false) :
    s.portChoice = some p := by
  have noPriority : s.priorityChoice = none := by
    refine State.priorityChoice_eq_none_iff.mpr (passed.imp_left fun streak => ?_)
    rw [← Bool.not_eq_false, State.priorityPassedOver_eq_false_iff, not_or, Nat.not_lt]
    exact ⟨streak, fun all => by simpa [first.1.2] using all p first.1.1⟩
  simp only [← State.normalCandidate_iff] at first
  rw [State.portChoice, noPriority]
  exact roundRobin_of_firstAfter first

/-! ### The commands -/

/-- The grant commands of a port, with the kind of the request each serves. -/
def portGrants (p : Port) : List (Instr × RequestKind) :=
  [(.read p, .read), (.write p, .write), (.mergeWrite p, .mergeWrite), (.lockedRead p, .lockedRead),
    (.condWrite p, .condWrite)]

/-- What the grant of a request does, by its kind. -/
def State.grantOf (s : State) (p : Port) (m : Request) : RequestKind → State
  | .lockedRead => s.grantLockedRead p m
  | .condWrite => s.grantCondWrite p m
  | k => s.grantPlain p m k

theorem next_serving {found : Option Request} {f : Request → State} :
    (match found with | none => .next s | some m => .next (f m) : Host.Outcome State Fault Refusal) =
      .next ((found.map f).getD s) := by
  cases found <;> rfl

/-- A grant command of a port serves the request that the arbiter grants, when there is one (log entries 9 and 22). -/
theorem exec_portGrant {i : Instr} {k : RequestKind} (h : (i, k) ∈ portGrants p) :
    exec i s = .next (((s.grantable p k).map fun m => s.grantOf p m k).getD s) := by
  simp only [portGrants, List.mem_cons, Prod.mk.injEq, List.not_mem_nil, or_false] at h
  rcases h with ⟨rfl, rfl⟩ | ⟨rfl, rfl⟩ | ⟨rfl, rfl⟩ | ⟨rfl, rfl⟩ | ⟨rfl, rfl⟩ <;> exact next_serving

theorem exec_portGrant_of_not_chosen {i : Instr} {k : RequestKind} (h : (i, k) ∈ portGrants p)
    (other : s.arbiterChoice ≠ some (.port p)) : exec i s = .next s := by
  rw [exec_portGrant h, State.grantable, if_neg other]
  rfl

/-- Settles O24, step by step of the grant order. -/
theorem grantOrder : Obligations.GrantOrder := by
  intro s
  refine ⟨State.arbiterChoice_of_busy, fun p other => ?ports, fun other => if_neg other, fun other => if_neg other,
    fun other => if_neg other, fun idle => ?idle⟩
  case ports =>
    have stands {i : Instr} (k : RequestKind) (h : (i, k) ∈ portGrants p) := exec_portGrant_of_not_chosen h other
    exact ⟨stands .read (by simp [portGrants]), stands .write (by simp [portGrants]),
      stands .mergeWrite (by simp [portGrants]), stands .lockedRead (by simp [portGrants]),
      stands .condWrite (by simp [portGrants])⟩
  case idle =>
    rw [State.arbiterChoice_of_idle idle]
    refine ⟨State.grantOrder_eq_none_iff, fun _ => State.stands_of_grantOrder, State.grantOrder_of_urgent,
      fun calm => ⟨State.grantOrder_of_share calm, fun turn => ?turn⟩⟩
    rw [State.grantOrder_of_turn calm turn]
    refine ⟨fun p notPassed first => ?priority, fun p passed first => ?normal, fun noPort => ?engines⟩
    case priority => rw [State.portChoice_of_priority notPassed first]; rfl
    case normal => rw [State.portChoice_of_normal passed first]; rfl
    case engines =>
      rw [State.portChoice_eq_none_iff.mpr noPort]
      exact ⟨State.engineChoice_of_queued, State.engineChoice_of_owed,
        fun empty noneOwed pending => by simp [State.engineChoice_of_rest empty noneOwed, pending]⟩

end Sys2Proof.Machine
end

section
/-! PROOF. The owed count (R131), the priority streak (R109) and the clear-share count (R110): what each grant does to
them, and that every step keeps them in range. Ten commands move one of them; every other leaves the refresh controller
and the arbiter as they stand. -/
namespace Sys2Proof.Machine

variable {s t : State} {p : Port} {m : Request} {i : Instr} {k : RequestKind}

/-! ### What a command answers -/

/-- Every state that a command answers meets a condition. -/
def Answers (answer : Host.Outcome State Fault Refusal) (P : State → Prop) : Prop := ∀ t, answer = .next t → P t

section
variable {P Q : State → Prop} {answer : Host.Outcome State Fault Refusal}

@[simp] theorem answers_next (t : State) : Answers (.next t) P ↔ P t := by
  constructor
  · exact fun h => h t rfl
  · rintro h _ ⟨⟩
    exact h

theorem Answers.mono (h : Answers answer P) (weaker : ∀ t, P t → Q t) : Answers answer Q :=
  fun t ht => weaker t (h t ht)

theorem answers_ite {c : Prop} [Decidable c] {a b : State} (ha : P a) (hb : P b) :
    Answers (if c then .next a else .next b) P := by
  split
  · simpa using ha
  · simpa using hb

/-- A command that serves a port's request, and without one changes nothing (log entry 9). -/
theorem answers_serving {found : Option Request} {f : Request → Host.Outcome State Fault Refusal} (stands : P s)
    (h : ∀ m, Answers (f m) P) : Answers (match found with | none => .next s | some m => f m) P := by
  cases found with
  | none => simpa using stands
  | some m => exact h m

/-- A completion, and without an operation to complete nothing (log entry 9). -/
theorem answers_completion {kind : OpKind} {f : Operation → State} (stands : P s) (h : ∀ o, P (f o)) :
    Answers (match s.completing kind with | none => .next s | some o => .next (f o)) P := by
  cases s.completing kind with
  | none => simpa using stands
  | some o => simpa using h o

/-- A request that is judged and answered (R60, R61). -/
theorem answers_judged {verdict : Option Status} (refused : ∀ st, P (s.answerStatus p m st)) (passed : P t) :
    Answers (match verdict with | some st => .next (s.answerStatus p m st) | none => .next t) P := by
  cases verdict with
  | none => simpa using passed
  | some st => simpa using refused st

end

/-! ### The commands that move no count -/

/-- The refresh controller and the arbiter, which hold the three counts, stand. -/
def State.CountsStand (s t : State) : Prop := t.refresh = s.refresh ∧ t.arbiter = s.arbiter

@[simp] theorem State.countsStand_iff : s.CountsStand t ↔ t.refresh = s.refresh ∧ t.arbiter = s.arbiter := Iff.rfl

theorem State.CountsStand.sound (h : s.CountsStand t) (hs : s.CountsSound) : t.CountsSound := by
  obtain ⟨refresh, arbiter⟩ := h
  exact ⟨by rw [refresh]; exact hs.owed, by rw [arbiter]; exact hs.streak, by rw [arbiter]; exact hs.share⟩

theorem State.countsStand_arrive : s.CountsStand (s.arrive p m) := by
  unfold State.arrive
  split
  · dsimp only
    split <;> exact ⟨rfl, rfl⟩
  · exact ⟨rfl, rfl⟩

theorem State.countsStand_foldl_cutOffer (l : List OfferEntry) : s.CountsStand (l.foldl (State.cutOffer p) s) := by
  induction l generalizing s with
  | nil => exact ⟨rfl, rfl⟩
  | cons o rest ih => exact ih (s := State.cutOffer p s o)

theorem State.countsStand_portReset : s.CountsStand (s.portReset p) := by
  have cut := State.countsStand_foldl_cutOffer (s := (s.setPort p (s.port p).portReset).setOffers
    (s.pageMap.offers.filter fun o => !o.names p)) (p := p) (s.pageMap.offers.filter fun o => o.names p)
  exact cut

theorem State.countsStand_writeLostCount : s.CountsStand (s.writeLostCount p m) := by
  unfold State.writeLostCount
  split <;> exact ⟨rfl, rfl⟩

theorem State.countsStand_writeItem : s.CountsStand (s.writeItem p m) := by
  unfold State.writeItem
  split
  · exact ⟨rfl, rfl⟩
  · split <;> exact ⟨rfl, rfl⟩

theorem State.countsStand_advanceClear : s.CountsStand s.advanceClear := by
  unfold State.advanceClear
  split
  · exact ⟨rfl, rfl⟩
  · split
    · exact ⟨rfl, rfl⟩
    · unfold State.finishPage
      dsimp only
      split <;> exact ⟨rfl, rfl⟩

/-- The commands that move a count: the two changes of NRST, the grants of the ports and of the clear engine, and the two
events of the refresh controller. -/
def movesCounts : Instr → Bool
  | .nrstFalls | .nrstRises _ _ => true
  | .read _ | .write _ | .mergeWrite _ | .lockedRead _ | .condWrite _ | .clearGrant => true
  | .refreshCompletes | .refreshIntervalRunsOut => true
  | _ => false

theorem exec_countsStand (s : State) (h : movesCounts i = false) : Answers (exec i s) s.CountsStand := by
  cases i with
  | nrstFalls | nrstRises | read | write | mergeWrite | lockedRead | condWrite | clearGrant | refreshCompletes
  | refreshIntervalRunsOut => cases h
  | prstFalls p => exact answers_ite State.countsStand_portReset ⟨rfl, rfl⟩
  | linkUpDelivered | prstRises | responseDelivered | refreshGrant | scrubGrant | scrubIntervalRunsOut
  | reservationLifetimeRunsOut => exact answers_ite ⟨rfl, rfl⟩ ⟨rfl, rfl⟩
  | requestArrives p w0 w1 w2 => exact answers_ite State.countsStand_arrive ⟨rfl, rfl⟩
  | readingEnds flips =>
    change Answers (execReadingEnds flips s) _
    unfold execReadingEnds
    split
    · simp
    · split <;> simp
  | readOpCompletes | storeCompletes | checkedStoreCompletes | mergeCompletes | scrubCompletes =>
    exact answers_completion ⟨rfl, rfl⟩ fun o => by simp
  | clearCompletes =>
    refine answers_completion ⟨rfl, rfl⟩ fun o => ?_
    simpa using State.countsStand_advanceClear (s := s.complete o)
  | offerLifetimeRunsOut page =>
    change Answers (execOfferLifetimeRunsOut page s) _
    unfold execOfferLifetimeRunsOut
    split <;> simp
  | noticeRecordCreate asker =>
    change Answers (execNoticeRecordCreate asker s) _
    unfold execNoticeRecordCreate
    split <;> simp
  | pageQuery p => exact answers_serving ⟨rfl, rfl⟩ fun _ => by simp
  | unlock p => exact answers_serving ⟨rfl, rfl⟩ fun m => answers_ite ⟨rfl, rfl⟩ ⟨rfl, rfl⟩
  | claim | grant | revoke | offer | withdraw | release =>
    exact answers_serving ⟨rfl, rfl⟩ fun m => answers_judged (fun _ => ⟨rfl, rfl⟩) (by simp)
  | accept | fetchNotice | ctlRead => exact answers_serving ⟨rfl, rfl⟩ fun m => by split <;> simp
  | ctlWrite p =>
    refine answers_serving ⟨rfl, rfl⟩ fun m => ?_
    split
    · simpa using State.countsStand_writeLostCount
    · exact answers_ite State.countsStand_writeItem ⟨rfl, rfl⟩
  | lostCount p => exact answers_serving ⟨rfl, rfl⟩ fun m => answers_ite State.countsStand_writeLostCount ⟨rfl, rfl⟩
  | start p => exact answers_serving ⟨rfl, rfl⟩ fun m => by split <;> simp

/-! ### The grants -/

/-- Every grant of a port counts alike, whatever its outcome, and leaves what is owed (R108 to R111). -/
theorem State.grantOf_counts :
    (s.grantOf p m k).refresh = s.refresh ∧ (s.grantOf p m k).arbiter = s.arbiterAfter p := by
  unfold State.grantOf
  split
  case h_1 =>
    unfold State.grantLockedRead
    dsimp only
    split
    · exact ⟨rfl, rfl⟩
    · split <;> exact ⟨rfl, rfl⟩
  case h_2 =>
    unfold State.grantCondWrite
    dsimp only
    split
    · exact ⟨rfl, rfl⟩
    · split <;> exact ⟨rfl, rfl⟩
  case h_3 =>
    unfold State.grantPlain
    dsimp only
    split <;> exact ⟨rfl, rfl⟩

/-- A grant of a port counts when the arbiter makes it, and changes nothing when it does not (log entry 22). -/
theorem answers_portGrant (grant : (i, k) ∈ portGrants p) :
    Answers (exec i s) fun t => t.refresh = s.refresh ∧
      (t.arbiter = s.arbiter ∨ s.arbiterChoice = some (.port p) ∧ t.arbiter = s.arbiterAfter p) := by
  by_cases chosen : s.arbiterChoice = some (.port p)
  · rw [exec_portGrant grant, answers_next]
    cases s.grantable p k with
    | none => exact ⟨rfl, .inl rfl⟩
    | some m =>
      obtain ⟨refresh, arbiter⟩ := State.grantOf_counts (s := s) (p := p) (m := m) (k := k)
      exact ⟨refresh, .inr ⟨chosen, arbiter⟩⟩
  · rw [exec_portGrant_of_not_chosen grant chosen, answers_next]
    exact ⟨rfl, .inl rfl⟩

/-- The arbiter's items after the grant of a request that waits and is chosen. -/
theorem arbiter_of_portGrant (grant : (i, k) ∈ portGrants p) (chosen : s.arbiterChoice = some (.port p))
    (routed : s.Routed p m k) (ht : exec i s = .next t) : t.arbiter = s.arbiterAfter p := by
  rw [exec_portGrant grant, State.grantable_eq chosen routed] at ht
  cases ht
  exact State.grantOf_counts.2

theorem execClearGrant_counts :
    Answers (execClearGrant s) fun t => t.refresh = s.refresh ∧ t.arbiter.streak = s.arbiter.streak ∧
      (t.arbiter.clearShare = s.arbiter.clearShare ∨ t.arbiter.clearShare = 0) :=
  answers_ite ⟨rfl, rfl, .inr rfl⟩ ⟨rfl, rfl, .inl rfl⟩

/-! ### The counts after the grant of a port -/

section
variable (chosen : s.arbiterChoice = some (.port p))
include chosen

/-- At 8 a port of the priority class is granted only where none of the normal class waits (R107, R109). -/
theorem State.all_priority_of_full (full : s.arbiter.streak = 8) (priority : s.isPriority p = true) :
    ∀ q, s.Stands (.port q) → s.isPriority q = true :=
  (State.priorityPassedOver_eq_false_iff.mp ((State.arbiterChoice_eq_port chosen).2 priority)).resolve_left (by omega)

/-- At 8 any grant of a port returns the streak to 0 (R109). -/
theorem State.streakAfter_of_full (full : s.arbiter.streak = 8) : s.streakAfter p = 0 := by
  cases class_of : s.isPriority p with
  | false => simp [State.streakAfter, class_of]
  | true => simp [State.streakAfter, State.normalWaits_eq_false (State.all_priority_of_full chosen full class_of)]

theorem State.streakAfter_le (inRange : s.arbiter.streak ≤ 8) : s.streakAfter p ≤ 8 := by
  rcases Nat.lt_or_eq_of_le inRange with below | full
  · unfold State.streakAfter
    split <;> omega
  · simp [State.streakAfter_of_full chosen full]

/-- At 16 the clear engine is granted before any port, so no grant of a port counts past 16 (R107, R110). -/
theorem State.shareAfter_le : s.shareAfter ≤ 16 := by
  rcases (State.arbiterChoice_eq_port chosen).1 with empty | below
  · simp [State.shareAfter, State.clearCandidate, empty]
  · unfold State.shareAfter
    split <;> omega

end

/-- Settles O25: the streak that the model computes, and at 8 the class of the port chosen. -/
theorem priorityStreak : Obligations.PriorityStreak := by
  intro s
  refine ⟨fun i k p m t grant chosen routed ht => ?port, fun i t engine ht => ?engine⟩
  case port =>
    have after : t.arbiter = s.arbiterAfter p := arbiter_of_portGrant grant chosen routed ht
    have counted : s.GrantCounted t p := State.grantCounted_of_arbiter after
    have streak : t.arbiter.streak = s.streakAfter p := by rw [after]; rfl
    have returns (full : s.arbiter.streak = 8) : t.arbiter.streak = 0 :=
      streak.trans (State.streakAfter_of_full chosen full)
    refine ⟨counted.streakRises, counted.streakAlone, counted.streakNormal, fun full waits => ⟨?normal, returns full⟩,
      returns, fun inRange => streak ▸ State.streakAfter_le chosen inRange⟩
    case normal =>
      obtain ⟨q, stands, normal⟩ := waits
      refine Bool.eq_false_iff.mpr fun priority => ?_
      simp [State.all_priority_of_full chosen full priority q stands] at normal
  case engine =>
    simp only [List.mem_cons, List.not_mem_nil, or_false] at engine
    rcases engine with rfl | rfl | rfl
    · rw [(exec_countsStand s rfl t ht).2]
    · exact (execClearGrant_counts t ht).2.1
    · rw [(exec_countsStand s rfl t ht).2]

/-- Settles O26: the share that the model computes, and the clear engine's turn at 16. -/
theorem clearShare : Obligations.ClearShare := by
  intro s
  refine ⟨fun i k p m t grant chosen routed ht => ?port, fun i t engine ht => ?engine, fun idle calm queued full => ?turn,
    fun t chosen ht => ?clear⟩
  case port =>
    have after : t.arbiter = s.arbiterAfter p := arbiter_of_portGrant grant chosen routed ht
    have counted : s.GrantCounted t p := State.grantCounted_of_arbiter after
    refine ⟨counted.shareRises, counted.shareAlone, fun _ => ?_⟩
    rw [after]
    exact State.shareAfter_le chosen
  case engine =>
    simp only [List.mem_cons, List.not_mem_nil, or_false] at engine
    rcases engine with rfl | rfl <;> rw [(exec_countsStand s rfl t ht).2]
  case turn => rw [State.arbiterChoice_of_idle idle, State.grantOrder_of_share calm queued full]
  case clear =>
    have granted : exec .clearGrant s = .next _ := if_pos chosen
    rw [granted] at ht
    cases ht
    rfl

/-! ### Every command, and every step -/

section
variable (hs : s.CountsSound)
include hs

theorem portGrant_countsSound (grant : (i, k) ∈ portGrants p) : Answers (exec i s) State.CountsSound := by
  refine (answers_portGrant grant).mono ?_
  rintro t ⟨refresh, stands | ⟨chosen, counted⟩⟩
  · exact State.CountsStand.sound ⟨refresh, stands⟩ hs
  · exact ⟨by rw [refresh]; exact hs.owed, by rw [counted]; exact State.streakAfter_le chosen hs.streak,
      by rw [counted]; exact State.shareAfter_le chosen⟩

theorem execClearGrant_countsSound : Answers (execClearGrant s) State.CountsSound := by
  refine execClearGrant_counts.mono ?_
  rintro t ⟨refresh, streak, share⟩
  refine ⟨by rw [refresh]; exact hs.owed, by rw [streak]; exact hs.streak, ?_⟩
  have := hs.share
  omega

theorem execRefreshCompletes_countsSound : Answers (execRefreshCompletes s) State.CountsSound := by
  refine answers_completion hs fun o => ?_
  have lowered : s.refresh.owed - 1 ≤ 8 := Nat.le_trans (Nat.sub_le _ _) hs.owed
  exact ⟨by simpa [RefreshController.completed] using lowered, by simpa using hs.streak, by simpa using hs.share⟩

/-- The owed count rises below 8 alone (R131). -/
theorem State.ranOut_owed_le (interval : Nat) : (s.refresh.ranOut interval).owed ≤ 8 := by
  have := hs.owed
  unfold RefreshController.ranOut Config.owedLimit
  dsimp only
  split <;> omega

theorem execRefreshIntervalRunsOut_countsSound : Answers (execRefreshIntervalRunsOut s) State.CountsSound := by
  refine answers_ite ?_ hs
  have owed := State.ranOut_owed_le hs s.control.items.refreshInterval
  split <;> exact ⟨owed, hs.streak, hs.share⟩

/-- Every command keeps the three counts in range. -/
theorem exec_countsSound (i : Instr) : Answers (exec i s) State.CountsSound := by
  cases moves : movesCounts i with
  | false => exact (exec_countsStand s moves).mono fun t stands => stands.sound hs
  | true =>
    cases i with
    | nrstFalls => exact (answers_next _).mpr ⟨Nat.zero_le _, Nat.zero_le _, Nat.zero_le _⟩
    | nrstRises msize pen => exact answers_ite hs ⟨Nat.zero_le _, Nat.zero_le _, Nat.zero_le _⟩
    | read p => exact portGrant_countsSound hs (p := p) (k := .read) (by simp [portGrants])
    | write p => exact portGrant_countsSound hs (p := p) (k := .write) (by simp [portGrants])
    | mergeWrite p => exact portGrant_countsSound hs (p := p) (k := .mergeWrite) (by simp [portGrants])
    | lockedRead p => exact portGrant_countsSound hs (p := p) (k := .lockedRead) (by simp [portGrants])
    | condWrite p => exact portGrant_countsSound hs (p := p) (k := .condWrite) (by simp [portGrants])
    | clearGrant => exact execClearGrant_countsSound hs
    | refreshCompletes => exact execRefreshCompletes_countsSound hs
    | refreshIntervalRunsOut => exact execRefreshIntervalRunsOut_countsSound hs
    | _ => cases moves

theorem step_countsSound : Answers (step s) State.CountsSound := by
  unfold step
  split
  · simpa using hs
  next c rest _ => exact exec_countsSound (s := s.withPending rest) ⟨hs.owed, hs.streak, hs.share⟩ c

end

/-- Settles O56: a step is the front command executed on a state with the same counts, and every command keeps them in
range; those of the arbiter because the grant order grants no port that would count past its limit. -/
theorem countsStayInRange : Obligations.CountsStayInRange := fun _ t hs ht => step_countsSound hs t ht

end Sys2Proof.Machine
end

section
/-! PROOF. The operation of a port's request (R114, R115), the end of its READING (R114) and the guard check made there
(R116). -/
namespace Sys2Proof.Machine

variable {s : State} {p : Port} {m : Request} {t : PortTerms} {o : Operation} {d : DecodeResult} {c : Guarded}

/-! ### What passes the checks (R25, R46) -/

/-- An access check that passes an action other than KEEP has found the page ON and the requester its owner (R46). -/
theorem accessCheck_passed {e : PageEntry} {k : RequestKind} {action : GuardAction}
    (passed : accessCheck e p k action = none) (acts : action ≠ .keep) : e.guardMode = .on ∧ e.ownedBy p = true := by
  unfold accessCheck at passed
  split at passed
  · cases passed
  split at passed
  · cases passed
  split at passed
  · cases passed
  next guardOn owned =>
    refine ⟨?_, by simpa [acts] using owned⟩
    cases mode : e.guardMode with
    | on => rfl
    | off => exact absurd ⟨acts, mode⟩ guardOn

/-- A READ or LOCKED-READ that names SET or CLEAR fails the port's first check (R25). -/
theorem portCheck_of_acting_read {action : GuardAction} (kind : m.kind = some .read ∨ m.kind = some .lockedRead)
    (named : m.guardAction = some action) (acts : action ≠ .keep) : s.portCheck m = some .badRequest := by
  have fields : checkFields m = none := by
    rcases kind with kind | kind <;> simp [checkFields, kind, named, acts]
  simp [State.portCheck, portCheck, fields]

/-! ### The operation at its start (R115) -/

/-- The kinds by the rows of R115. -/
theorem operationKind_rows (mode : GuardMode) (action : GuardAction) :
    operationKind .read mode action = .read ∧ operationKind .lockedRead mode action = .read ∧
    operationKind .write .off .keep = .store ∧
    (action ≠ .keep → operationKind .write .on action = .store) ∧ operationKind .write .on .keep = .checkedStore ∧
    operationKind .condWrite mode action = operationKind .write mode action ∧
    operationKind .mergeWrite mode action = .merge :=
  ⟨rfl, rfl, rfl, fun acts => if_neg fun h => acts h.2, rfl, rfl, rfl⟩

/-- A STORE starts in WRITING with its word settled, whatever the word held (R115, R118). -/
theorem operationFor_of_store (store : (operationFor t).kind = .store) :
    (operationFor t).phase = .writing ∧ (operationFor t).settled =
      some { data := t.msg.data, guard := storedGuard t.guardMode (t.msg.judgedAction t.kind) false } :=
  ⟨if_pos store, if_pos store⟩

theorem operationFor_of_not_store (read : (operationFor t).kind ≠ .store) :
    (operationFor t).phase = .reading ∧ (operationFor t).settled = none :=
  ⟨if_neg read, if_neg read⟩

/-- Settles O19, by the rows of R115 and the checks a request has passed before its grant. -/
theorem operationKindAtGrant : Obligations.OperationKindAtGrant :=
  ⟨operationKind_rows, fun _ _ _ _ => accessCheck_passed, fun _ _ _ => portCheck_of_acting_read,
    fun _ => ⟨rfl, rfl, rfl, rfl, fun store => ⟨(operationFor_of_store store).1, _, (operationFor_of_store store).2⟩,
      operationFor_of_not_store⟩⟩

/-! ### The end of READING (R114) -/

theorem exec_readingEnds {a : Nat} (flips : StoredWord) (flight : s.sequencer = some o) (phase : o.phase = .reading)
    (unread : o.decoded = none) (target : o.target = .word a) :
    exec (.readingEnds flips) s = .next (s.endReading o a flips) := by
  have reads : o.wordBeingRead = some a := by simp [Operation.wordBeingRead, phase, unread, target]
  change execReadingEnds flips s = _
  rw [execReadingEnds, flight]
  dsimp only
  rw [reads]

theorem State.changesOnly_setArray (l : Memory) : s.ChangesOnly (s.setArray l) [.array] := by
  intro b hb
  cases b <;> first | rfl | exact absurd (by simp) hb

/-- The word that is read stands in the array with the positions that the DRAM has changed (log entry 8). -/
theorem State.wordBecomes_endReading (sound : s.ArraySound) (o : Operation) (a : Nat) (flips : StoredWord) :
    s.WordBecomes (s.endReading o a flips) a (some (s.array.read a ^^^ flips)) := by
  have reads (b : Nat) : (s.endReading o a flips).array.read b =
      if b = a then s.array.read a ^^^ flips else s.array.read b := Memory.read_write sound a b _
  exact ⟨by simp [reads], fun b hb => by simp [reads, hb]⟩

/-- Settles O28: the word read is the one then written, and its decoding settles the rest. -/
theorem readingEnds : Obligations.ReadingEnds := by
  intro s o a flips flight phase unread target sound
  exact ⟨_, exec_readingEnds flips flight phase unread target, ⟨_, _, rfl, rfl, rfl⟩,
    State.wordBecomes_endReading sound o a flips,
    ((State.changesOnly_setArray _).trans (State.changesOnly_setSequencer _)).mono (by simp)⟩

/-! ### The guard check (R116) -/

theorem GuardMode.isOn_iff (mode : GuardMode) : mode.isOn = true ↔ mode = .on := by
  cases mode <;> decide

/-- The three conditions of R116. -/
theorem guardRefuses_iff :
    guardRefuses t c = true ↔ t.guardMode = .on ∧ c.guard = true ∧ t.isOwner = false := by
  simp [guardRefuses, GuardMode.isOn_iff, and_assoc]

theorem settleWrite_of_refused {merge : Bool} (refused : guardRefuses t c = true) : settleWrite merge t c = none :=
  if_pos refused

/-- A write that the guard check lets through stores the guard of the table (R116). -/
theorem settleWrite_of_passed (merge : Bool) (passed : ¬ guardRefuses t c = true) :
    ∃ g, settleWrite merge t c = some g ∧ g.guard = storedGuard t.guardMode (t.msg.judgedAction t.kind) c.guard :=
  ⟨_, if_neg passed, rfl⟩

@[simp] theorem storedGuard_off (action : GuardAction) (stored : Bool) : storedGuard .off action stored = false := by
  cases action <;> rfl

/-- CHECKED-STORE and MERGE settle what the guard check lets through (R119, R120). -/
theorem settle_checked {writeBack : Bool} (hd : d.corrected = some c) (ht : o.served = .port t)
    (checked : o.kind = .checkedStore ∨ o.kind = .merge) :
    ∃ merge, settle writeBack o d = settleWrite merge t c := by
  rcases checked with kind | kind
  · exact ⟨false, settle_checkedStore hd ht kind⟩
  · exact ⟨true, settle_merge hd ht kind⟩

/-- A write-back stores the word as it was corrected, the guard with it (R10, R117, R122). -/
theorem settle_writeBack {writeBack : Bool} (kind : o.kind = .read ∨ o.kind = .scrub) :
    settle writeBack o d =
      if d.isSingle = true ∧ (o.kind = .scrub ∨ writeBack = true) then d.corrected else none := by
  cases hd : d.corrected with
  | none => simp [settle_of_uncorrected hd]
  | some c =>
    rcases kind with kind | kind
    · simp [settle_read hd kind, kind]
    · simp [settle_scrub hd kind, kind]

/-- The answer of a CHECKED-STORE or MERGE that the guard check has refused (R116, R125). -/
theorem responseOf_refused (hd : d.corrected = some c) (checked : o.kind = .checkedStore ∨ o.kind = .merge) :
    responseOf (o.afterRead d none) t =
      { tag := t.msg.tag, status := .guarded, corrected := d.isSingle, data := none, guard := none, image := none } := by
  have notRead : o.kind ≠ .read := by
    rcases checked with kind | kind <;> simp [kind]
  simp [responseOf, Operation.afterRead, notRead, checkedResponse, hd, plainResponse]

/-- A READ is answered OK or DATA-LOST (R117). -/
theorem responseOf_read_status (read : o.kind = .read) : (responseOf o t).status ≠ .guarded := by
  unfold responseOf
  cases o.decoded with
  | none => simp [plainResponse]
  | some d => cases hd : d.corrected <;> simp [read, readResponse, hd, plainResponse]

/-- Settles O30: the guard check of CHECKED-STORE and MERGE, then the operations that make none. -/
theorem guardCheck : Obligations.GuardCheck := by
  refine ⟨DecodeResult.isSingle_iff, fun writeBack o t d c ht checked hd => ?checked, fun t store => ?store,
    fun _ _ _ => settle_writeBack, fun _ _ => responseOf_read_status⟩
  case checked =>
    obtain ⟨merge, settles⟩ := settle_checked (writeBack := writeBack) hd ht checked
    rw [← guardRefuses_iff, settles]
    refine ⟨fun refused => ⟨settleWrite_of_refused refused, rfl, rfl, responseOf_refused hd checked⟩, fun passed => ?_⟩
    obtain ⟨g, written, guard⟩ := settleWrite_of_passed merge passed
    refine ⟨g, written, fun guardOn keep => ?_, fun guardOff => ?_⟩
    · rw [guard, guardOn, keep]
      rfl
    · rw [guard, guardOff, storedGuard_off]
  case store =>
    obtain ⟨phase, settled⟩ := operationFor_of_store store
    refine ⟨by simp [Operation.wordBeingRead, phase], _, settled, fun guardOn set => ?_, fun guardOn clear => ?_,
      fun guardOff => ?_⟩
    · simp [guardOn, set, storedGuard]
    · simp [guardOn, clear, storedGuard]
    · simp [guardOff]

end Sys2Proof.Machine
end

section
/-! PROOF. The completion of a SCRUB (R122, R149): the steps of every completion, then the scrub engine's own. -/
namespace Sys2Proof.Machine

variable {s : State} {o : Operation}

theorem exec_scrubCompletes (h : s.InFlight o .scrub) :
    exec .scrubCompletes s = .next ((s.complete o).setScrub ((s.complete o).scrub.completed (s.complete o).size)) := by
  change execScrubCompletes s = _
  rw [execScrubCompletes, State.completing_eq h]

/-- An operation of the scrub engine answers no port. -/
theorem State.complete_of_scrubEngine (served : o.served = .scrubEngine) :
    s.complete o = (s.reported o).setSequencer none := by
  simp [State.complete, State.reported, State.servePort, served]

theorem State.changesOnly_setScrub (c : ScrubEngine) : s.ChangesOnly (s.setScrub c) [.scrub] := by
  intro b hb
  cases b <;> first | rfl | exact absurd (by simp) hb

theorem ScrubEngine.completed_of_lt {c : ScrubEngine} {size : Nat} (inside : c.position + 1 < size) :
    c.completed size = { c with position := c.position + 1, pending := false } := if_pos inside

theorem ScrubEngine.completed_of_last {c : ScrubEngine} {size : Nat} (last : c.position + 1 = size) :
    c.completed size = { c with position := 0, passes := c.passes + 1#16, pending := false } := if_neg (by omega)

/-- Settles O36: the reports as of any completion, then the position and the pass count. -/
theorem scrubCompletes : Obligations.ScrubCompletes := by
  intro s o a d flight served read target inMap sound inArray
  have finder : o.finder = .scrub := by simp [Operation.finder, served]
  have engine : (s.complete o).scrub.completed (s.complete o).size = s.scrub.completed s.size := by
    simp [State.size]
  refine ⟨_, exec_scrubCompletes flight, ?_⟩
  rw [engine, State.complete_of_scrubEngine served]
  refine ⟨rfl, State.wordBecomes_landWrite sound target (by simp),
    finder ▸ State.reportsMade_reported target read inMap (by simp) (by simp),
    fun inside => ScrubEngine.completed_of_lt inside, fun last => ?last,
    (((State.changesOnly_reported target read).trans (State.changesOnly_setSequencer _)).trans
      (State.changesOnly_setScrub _)).mono (by simp)⟩
  case last =>
    rw [State.setScrub_scrub, ScrubEngine.completed_of_last last]
    exact ⟨rfl, BitVec.toNat_add _ _, rfl, rfl⟩

end Sys2Proof.Machine
end

section
/-! PROOF. The grants of the refresh controller, the clear engine and the scrub engine (R133, R142, R148). -/
namespace Sys2Proof.Machine

variable {s : State}

/-- A CLEAR goes to the word of the head page that the progress names (R142). -/
theorem ClearEngine.nextWord_of_cons {c : ClearEngine} {n : Nat} {rest : List Nat} (head : c.queue = n :: rest) :
    c.nextWord = n * 4096 + c.progress := by
  rw [ClearEngine.nextWord, head]
  rfl

theorem State.changesOnly_setArbiter (a : Arbiter) : s.ChangesOnly (s.setArbiter a) [.arbiter] := by
  intro b hb
  cases b <;> first | rfl | exact absurd (by simp) hb

theorem exec_refreshGrant (chosen : s.arbiterChoice = some .refreshController) :
    exec .refreshGrant s = .next (s.setSequencer (some s.refreshOperation)) := if_pos chosen

theorem exec_clearGrant (chosen : s.arbiterChoice = some .clearEngine) :
    exec .clearGrant s =
      .next ((s.setArbiter { s.arbiter with clearShare := 0 }).setSequencer (some s.clearOperation)) := if_pos chosen

theorem exec_scrubGrant (chosen : s.arbiterChoice = some .scrubEngine) :
    exec .scrubGrant s = .next (s.setSequencer (some s.scrubOperation)) := if_pos chosen

/-- Settles O27: each grant puts its engine's operation in the sequencer, and a CLEAR grant also ends the clear share. -/
theorem engineGrants : Obligations.EngineGrants := by
  refine fun s => ⟨fun chosen => ?refresh, fun n rest chosen head => ?clear, fun chosen => ?scrub⟩
  case refresh => exact ⟨_, exec_refreshGrant chosen, rfl, State.changesOnly_setSequencer _⟩
  case clear =>
    refine ⟨_, exec_clearGrant chosen, ?_, rfl,
      ((State.changesOnly_setArbiter _).trans (State.changesOnly_setSequencer _)).mono (by simp)⟩
    rw [State.setSequencer_sequencer, State.clearOperation, ClearEngine.nextWord_of_cons head]
  case scrub => exact ⟨_, exec_scrubGrant chosen, rfl, State.changesOnly_setSequencer _⟩

end Sys2Proof.Machine
end

section
/-! PROOF. The refresh interval and the scrub interval run out (R130, R131, R147). -/
namespace Sys2Proof.Machine

variable {s : State} {loaded : Nat}

theorem State.changesOnly_setRefresh (r : RefreshController) : s.ChangesOnly (s.setRefresh r) [.refresh] := by
  intro b hb
  cases b <;> first | rfl | exact absurd (by simp) hb

/-- What the refresh controller takes when its interval timer runs out (R130, R131). -/
structure State.RefreshRanOut (s t : State) : Prop where
  timer : t.refresh.timer = .running s.control.items.refreshInterval
  row : t.refresh.row = s.refresh.row
  below : s.refresh.owed < 8 → t.refresh.owed = s.refresh.owed + 1 ∧ t.log.asked = s.log.asked
  full : 8 ≤ s.refresh.owed → t.refresh.owed = s.refresh.owed ∧ t.log.asked = s.log.asked ++ [.refreshOverrun]
  frame : s.ChangesOnly t [.refresh, .asked]

theorem exec_refreshIntervalRunsOut_below (running : s.refresh.timer = .running loaded) (below : s.refresh.owed < 8) :
    exec .refreshIntervalRunsOut s = .next (s.setRefresh
      { s.refresh with owed := s.refresh.owed + 1, timer := .running s.control.items.refreshInterval }) := by
  change execRefreshIntervalRunsOut s = _
  simp [execRefreshIntervalRunsOut, running, Timer.isRunning, RefreshController.ranOut, below]

/-- With 8 owed the running out is not recorded, and the overrun is handed to the notice log (R131, R132). -/
theorem exec_refreshIntervalRunsOut_full (running : s.refresh.timer = .running loaded) (full : 8 ≤ s.refresh.owed) :
    exec .refreshIntervalRunsOut s = .next ((s.setRefresh
      { s.refresh with timer := .running s.control.items.refreshInterval }).ask [.refreshOverrun]) := by
  have notBelow : ¬ s.refresh.owed < 8 := Nat.not_lt.mpr full
  change execRefreshIntervalRunsOut s = _
  simp [execRefreshIntervalRunsOut, running, Timer.isRunning, RefreshController.ranOut, notBelow]

theorem exec_refreshIntervalRunsOut_of_stopped (stopped : s.refresh.timer = .stopped) :
    exec .refreshIntervalRunsOut s = .next s := if_neg (by simp [stopped, Timer.isRunning])

theorem completes_refreshIntervalRunsOut (running : s.refresh.timer = .running loaded) :
    Completes .refreshIntervalRunsOut s s.RefreshRanOut := by
  rcases Nat.lt_or_ge s.refresh.owed 8 with below | full
  · exact ⟨_, exec_refreshIntervalRunsOut_below running below,
      { timer := rfl
        row := rfl
        below := fun _ => ⟨rfl, rfl⟩
        full := fun full => absurd below (Nat.not_lt.mpr full)
        frame := (State.changesOnly_setRefresh _).mono (by simp) }⟩
  · exact ⟨_, exec_refreshIntervalRunsOut_full running full,
      { timer := rfl
        row := rfl
        below := fun below => absurd below (Nat.not_lt.mpr full)
        full := fun _ => ⟨rfl, rfl⟩
        frame := (State.changesOnly_setRefresh _).trans (State.changesOnly_ask _) }⟩

theorem exec_scrubIntervalRunsOut (running : s.scrub.timer = .running loaded) :
    exec .scrubIntervalRunsOut s = .next (s.setScrub
      { s.scrub with pending := true, timer := .running s.control.items.scrubInterval }) :=
  if_pos (by simp [running, Timer.isRunning])

theorem exec_scrubIntervalRunsOut_of_stopped (stopped : s.scrub.timer = .stopped) :
    exec .scrubIntervalRunsOut s = .next s := if_neg (by simp [stopped, Timer.isRunning])

/-- Settles O37: each timer running, then each stopped. -/
theorem intervalsRunOut : Obligations.IntervalsRunOut := by
  refine fun s => ⟨fun loaded running => ?refresh, exec_refreshIntervalRunsOut_of_stopped,
    fun loaded running => ⟨_, exec_scrubIntervalRunsOut running, rfl, State.changesOnly_setScrub _⟩,
    exec_scrubIntervalRunsOut_of_stopped⟩
  case refresh =>
    obtain ⟨t, ran, out⟩ := completes_refreshIntervalRunsOut running
    exact ⟨t, ran, out.timer, out.row, out.below, out.full, out.frame⟩

end Sys2Proof.Machine
end

section
/-! PROOF. The completion of a REFRESH, alone and with a running out of the interval timer (R134). The three rows of the
table follow from what each of the two steps takes, in either order. -/
namespace Sys2Proof.Machine

variable {s t : State} {o : Operation}

/-- A REFRESH that may complete: it serves the refresh controller, has read nothing and has nothing to write (R11, R122). -/
structure State.RefreshInFlight (s : State) (o : Operation) : Prop where
  flight : s.InFlight o .refresh
  served : o.served = .refreshController
  unread : o.decoded = none
  unsettled : o.settled = none

theorem State.RefreshInFlight.of_sequencer_eq (h : s.RefreshInFlight o) (same : t.sequencer = s.sequencer) :
    t.RefreshInFlight o := by
  obtain ⟨inSequencer, last⟩ := h.flight
  exact ⟨⟨same.trans inSequencer, last⟩, h.served, h.unread, h.unsettled⟩

/-- What the refresh controller takes when a REFRESH completes (R134). -/
structure State.RefreshDone (s t : State) : Prop where
  owed : t.refresh.owed + 1 = s.refresh.owed
  row : t.refresh.row.toNat = (s.refresh.row.toNat + 1) % 8192
  timer : t.refresh.timer = s.refresh.timer
  idle : t.sequencer = none
  frame : s.ChangesOnly t [.sequencer, .refresh]

/-- A REFRESH writes no word, makes no report and answers no port (R11, R124). -/
theorem State.RefreshInFlight.complete_eq (h : s.RefreshInFlight o) : s.complete o = s.setSequencer none := by
  simp [State.complete, State.landWrite, State.reportOf, State.servePort, h.served, h.unread, h.unsettled]

theorem State.RefreshInFlight.exec_refreshCompletes (h : s.RefreshInFlight o) :
    exec .refreshCompletes s = .next ((s.setSequencer none).setRefresh s.refresh.completed) := by
  change execRefreshCompletes s = _
  rw [execRefreshCompletes, State.completing_eq h.flight]
  dsimp only
  rw [h.complete_eq, State.setSequencer_refresh]

theorem State.RefreshInFlight.completes (h : s.RefreshInFlight o) (owes : 1 ≤ s.refresh.owed) :
    Completes .refreshCompletes s s.RefreshDone :=
  ⟨_, h.exec_refreshCompletes,
    { owed := Nat.sub_add_cancel owes
      row := BitVec.toNat_add s.refresh.row 1#13
      timer := rfl
      idle := rfl
      frame := (State.changesOnly_setSequencer _).trans (State.changesOnly_setRefresh _) }⟩

/-- With the sequencer idle and a refresh owed the arbiter has someone to grant (R105, R106). -/
theorem State.arbiterChoice_ne_none_of_owed (idle : s.sequencer = none) (owes : 1 ≤ s.refresh.owed) :
    s.arbiterChoice ≠ none := by
  rw [State.arbiterChoice_of_idle idle]
  exact fun noChoice => State.grantOrder_eq_none_iff.mp noChoice .refreshController owes

/-- The completion is taken first: it makes room, so that the running out is recorded (R134). -/
theorem State.RefreshDone.then_ranOut {done both : State} (completed : s.RefreshDone done)
    (out : done.RefreshRanOut both) (inRange : s.refresh.owed ≤ 8) :
    both.refresh.owed = s.refresh.owed ∧ both.log.asked = s.log.asked ∧
      both.refresh.row.toNat = (s.refresh.row.toNat + 1) % 8192 := by
  have lowered := completed.owed
  obtain ⟨owed, asked⟩ := out.below (by omega)
  have unasked : done.log.asked = s.log.asked := completed.frame .asked (by simp)
  exact ⟨owed.trans lowered, asked.trans unasked, by rw [out.row, completed.row]⟩

/-- The running out is taken first: the completion takes one from the count it leaves, and asks for nothing (R134). -/
theorem State.RefreshRanOut.then_done {ranOut both : State} (out : s.RefreshRanOut ranOut)
    (completed : ranOut.RefreshDone both) :
    both.refresh.owed + 1 = ranOut.refresh.owed ∧ both.log.asked = ranOut.log.asked ∧
      both.refresh.row.toNat = (s.refresh.row.toNat + 1) % 8192 :=
  ⟨completed.owed, completed.frame .asked (by simp), by rw [completed.row, out.row]⟩

theorem State.RefreshRanOut.owes (out : s.RefreshRanOut t) (owes : 1 ≤ s.refresh.owed) : 1 ≤ t.refresh.owed := by
  rcases Nat.lt_or_ge s.refresh.owed 8 with below | full
  · rw [(out.below below).1]
    omega
  · rwa [(out.full full).1]

/-- Settles O34: the completion alone, then the two orders and what each row of the table says of them. -/
theorem refreshCompletes : Obligations.RefreshCompletes := by
  intro s o flight served unread unsettled owes
  have inFlight : s.RefreshInFlight o := ⟨flight, served, unread, unsettled⟩
  obtain ⟨done, completes, completed⟩ := inFlight.completes owes
  refine ⟨⟨done, completes, completed.owed, completed.row, completed.timer, completed.idle, completed.frame,
    fun owed => ⟨owed, State.arbiterChoice_ne_none_of_owed completed.idle owed⟩⟩, fun loaded running inRange => ?_⟩
  obtain ⟨both, runsOutAfter, outAfter⟩ := completes_refreshIntervalRunsOut (completed.timer.trans running)
  obtain ⟨ranOut, runsOut, out⟩ := completes_refreshIntervalRunsOut running
  have stillInFlight := inFlight.of_sequencer_eq (out.frame .sequencer (by simp))
  obtain ⟨both', completesAfter, completedAfter⟩ := stillInFlight.completes (out.owes owes)
  obtain ⟨owed, asked, row⟩ := completed.then_ranOut outAfter inRange
  obtain ⟨owed', asked', row'⟩ := out.then_done completedAfter
  refine ⟨done, both, ranOut, both', completes, runsOutAfter, runsOut, completesAfter, row, row', fun upTo7 => ?upTo7,
    fun at8 => ?at8⟩
  case upTo7 =>
    obtain ⟨raised, unasked⟩ := out.below (by omega)
    exact ⟨owed, by omega, asked, asked'.trans unasked⟩
  case at8 =>
    have lowered := completed.owed
    obtain ⟨stays, overrun⟩ := out.full (by omega)
    exact ⟨by omega, owed.trans at8, asked, stays.trans at8, overrun, by omega⟩

end Sys2Proof.Machine
end

section
/-! PROOF. The completion of a CLEAR (R122, R143): a word inside a page, the last word of a page, and the last word of
the last page of INIT, with the requests that the notice log takes first (R167; log entry 25). -/
namespace Sys2Proof.Machine

variable {s : State} {o : Operation} {a n : Nat} {rest : List Nat}

/-! ### The word is cleared -/

/-- A CLEAR that may complete: it serves the clear engine, has read nothing and has a zero word to write (R11, R122). -/
structure State.ClearInFlight (s : State) (o : Operation) (a : Nat) : Prop where
  flight : s.InFlight o .clear
  served : o.served = .clearEngine
  unread : o.decoded = none
  settled : o.settled = some { data := 0#32, guard := false }
  target : o.target = .word a

/-- The word holds 40 zero bits and the sequencer is idle (R2, R124). -/
def State.wordCleared (s : State) (a : Nat) : State := (s.setArray (s.array.write a 0#40)).setSequencer none

/-- Data 0 with guard 0 is stored as 40 zero bits (R2). -/
theorem encode_zero : encode { data := 0#32, guard := false } = 0#40 := by decide +kernel

/-- A CLEAR makes no report and answers no port (R11, R124). -/
theorem State.ClearInFlight.complete_eq (h : s.ClearInFlight o a) : s.complete o = s.wordCleared a := by
  simp [State.complete, State.landWrite, State.reportOf, State.servePort, State.wordCleared, h.served, h.unread,
    h.settled, h.target, encode_zero]

theorem State.ClearInFlight.exec_clearCompletes (h : s.ClearInFlight o a) :
    exec .clearCompletes s = .next (s.wordCleared a).advanceClear := by
  change execClearCompletes s = _
  rw [execClearCompletes, State.completing_eq h.flight]
  dsimp only
  rw [h.complete_eq]

theorem State.ClearInFlight.wordBecomes {t : State} (h : s.ClearInFlight o a) (sound : s.ArraySound)
    (cleared : t.array = (s.wordCleared a).array) : s.WordBecomes t a (some 0#40) := by
  have landed : t.array = (s.landWrite o).array := by rw [cleared, ← h.complete_eq, State.complete_array]
  simpa [h.settled, encode_zero] using State.wordBecomes_landWrite sound h.target landed

theorem State.changesOnly_wordCleared : s.ChangesOnly (s.wordCleared a) [.array, .sequencer] :=
  (State.changesOnly_setArray _).trans (State.changesOnly_setSequencer _)

/-! ### The clear engine moves on -/

theorem State.advanceClear_of_lt (head : s.clear.queue = n :: rest) (inside : s.clear.progress < 4095) :
    s.advanceClear = s.setClear { queue := n :: rest, progress := s.clear.progress + 1 } := by
  have inPage : s.clear.progress + 1 < Config.pageWords := Nat.succ_lt_succ inside
  simp [State.advanceClear, head, inPage]

theorem State.advanceClear_of_last (head : s.clear.queue = n :: rest) (last : s.clear.progress = 4095) :
    s.advanceClear = s.finishPage n rest := by
  simp [State.advanceClear, head, last, Config.pageWords]

/-- The page is FREE and the next one in the queue is cleared from its first word on (R143). -/
def State.pageFreed (s : State) (n : Nat) (rest : List Nat) : State :=
  (s.setEntry n { s.entry n with state := .free }).setClear { queue := rest, progress := 0 }

theorem State.changesOnly_pageFreed : s.ChangesOnly (s.pageFreed n rest) [.entries, .clear] :=
  (State.changesOnly_setEntry _ _).trans (State.changesOnly_setClear _)

theorem State.finishPage_of_ends (emptied : rest = []) (init : s.control.device = .init) :
    s.finishPage n rest = (s.pageFreed n rest).endInitClear := if_pos (by simp [emptied, init])

theorem State.finishPage_of_stays (stays : rest ≠ [] ∨ s.control.device ≠ .init) :
    s.finishPage n rest = s.pageFreed n rest := by
  refine if_neg fun ends => ?_
  obtain ⟨emptied, init⟩ := Bool.and_eq_true_iff.mp ends
  rcases stays with queued | past
  · exact queued (List.isEmpty_iff.mp emptied)
  · exact past (of_decide_eq_true init)

/-! ### INIT ends -/

theorem State.endInitClear_control : s.endInitClear.control = { s.control with device := .setup } := rfl

/-- READY is asked for when nothing else waits (R164, R167; log entry 25). -/
theorem State.endInitClear_asked : s.endInitClear.log.asked = [.ready] := by
  simp [State.endInitClear]

theorem State.changesOnly_endInitClear :
    s.ChangesOnly s.endInitClear [.control, .records, .sequence, .lost, .lines, .asked] := by
  intro b hb
  cases b <;> first | rfl | exact absurd (by simp) hb

/-- With no request waiting the log takes nothing before INIT ends. -/
theorem State.changesOnly_endInitClear_of_nil (nothing : s.log.asked = []) :
    s.ChangesOnly s.endInitClear [.control, .asked] := by
  have untaken : s.logTakesAll = s := by
    rw [State.logTakesAll, NoticeLog.takeAll_of_nil _ nothing]
    rfl
  rw [State.endInitClear, untaken]
  intro b hb
  cases b <;> first | rfl | exact absurd (by simp) hb

/-- Whether INIT ends with the page or not, what it adds to the freed page touches the control block and the log alone. -/
theorem State.changesOnly_finishPage_of_pageFreed (s : State) (n : Nat) (rest : List Nat) :
    (s.pageFreed n rest).ChangesOnly (s.finishPage n rest) [.control, .records, .sequence, .lost, .lines, .asked] := by
  by_cases ends : rest = [] ∧ s.control.device = .init
  · obtain ⟨emptied, init⟩ := ends
    rw [State.finishPage_of_ends emptied init]
    exact State.changesOnly_endInitClear
  · rw [State.finishPage_of_stays (Decidable.not_and_iff_not_or_not.mp ends)]
    exact fun b _ => by cases b <;> rfl

/-- The log once it has taken the oldest request that waits. -/
def State.oldestTaken (s : State) (r : NoticeRequest) (waiting : List NoticeRequest) : State :=
  s.setLog (NoticeLog.take { s.log with asked := waiting } s.activePorts r)

/-- INIT ends alike whether the log has taken the oldest request by itself before or takes it then (log entry 25). -/
theorem State.endInitClear_oldestTaken {r : NoticeRequest} {waiting : List NoticeRequest}
    (oldest : s.log.asked = r :: waiting) : (s.oldestTaken r waiting).endInitClear = s.endInitClear := by
  have sameLog : (s.oldestTaken r waiting).logTakesAll = s.logTakesAll := by
    rw [State.logTakesAll, State.logTakesAll, NoticeLog.takeAll_of_cons _ oldest]
    rfl
  rw [State.endInitClear, sameLog]
  rfl

/-! ### The completion -/

theorem State.ClearInFlight.exec_of_lt (h : s.ClearInFlight o a) (head : s.clear.queue = n :: rest)
    (inside : s.clear.progress < 4095) :
    exec .clearCompletes s =
      .next ((s.wordCleared a).setClear { queue := n :: rest, progress := s.clear.progress + 1 }) := by
  rw [h.exec_clearCompletes, State.advanceClear_of_lt (s := s.wordCleared a) head inside]
  rfl

theorem State.ClearInFlight.exec_of_last (h : s.ClearInFlight o a) (head : s.clear.queue = n :: rest)
    (last : s.clear.progress = 4095) : exec .clearCompletes s = .next ((s.wordCleared a).finishPage n rest) := by
  rw [h.exec_clearCompletes, State.advanceClear_of_last (s := s.wordCleared a) head last]

/-- The completion that ends INIT takes the waiting requests as NOTICE_RECORD_CREATE would, the oldest first. -/
theorem State.ClearInFlight.exec_oldestTaken {r : NoticeRequest} {waiting : List NoticeRequest}
    (h : s.ClearInFlight o a) (head : s.clear.queue = [n]) (last : s.clear.progress = 4095)
    (init : s.control.device = .init) (oldest : s.log.asked = r :: waiting) :
    exec .clearCompletes s = exec .clearCompletes (s.oldestTaken r waiting) := by
  have taken : (s.oldestTaken r waiting).ClearInFlight o a := { h with flight := h.flight }
  rw [h.exec_of_last head last, taken.exec_of_last head last, State.finishPage_of_ends (s := s.wordCleared a) rfl init,
    State.finishPage_of_ends (s := (s.oldestTaken r waiting).wordCleared a) rfl init]
  exact congrArg _ (State.endInitClear_oldestTaken (s := (s.wordCleared a).pageFreed n []) oldest).symm

/-- Settles O35: a word inside the page; then the page's last word, with the end of INIT and without. -/
theorem clearCompletes : Obligations.ClearCompletes := by
  intro s o a n rest flight served unread settled target head sound
  have inFlight : s.ClearInFlight o a := ⟨flight, served, unread, settled, target⟩
  have freed : s.ChangesOnly ((s.wordCleared a).pageFreed n rest) ([.array, .sequencer] ++ [.entries, .clear]) :=
    State.changesOnly_wordCleared.trans State.changesOnly_pageFreed
  have ended := (s.wordCleared a).changesOnly_finishPage_of_pageFreed n rest
  refine ⟨fun inside => ⟨_, inFlight.exec_of_lt head inside, rfl, rfl, inFlight.wordBecomes sound rfl,
      (State.changesOnly_wordCleared.trans (State.changesOnly_setClear _)).mono (by simp)⟩,
    fun last inMap => ⟨_, inFlight.exec_of_last head last, ended .clear (by simp), ended .sequencer (by simp),
      inFlight.wordBecomes sound (ended .array (by simp)),
      State.entryBecomes_setEntry inMap (ended .entries (by simp)), fun emptied init => ?ends, fun stays => ?stays⟩⟩
  case ends =>
    subst emptied
    rw [State.finishPage_of_ends (s := s.wordCleared a) rfl init]
    exact ⟨rfl, State.endInitClear_asked,
      fun nothing => (freed.trans (State.changesOnly_endInitClear_of_nil nothing)).mono (by simp),
      (freed.trans State.changesOnly_endInitClear).mono (by simp),
      fun r waiting oldest => ⟨_, execNoticeRecordCreate_oldest s oldest, NoticeLog.take_asked _ _ _,
        inFlight.exec_oldestTaken head last init oldest⟩⟩
  case stays =>
    rw [State.finishPage_of_stays (s := s.wordCleared a) stays]
    exact freed.mono (by simp)

end Sys2Proof.Machine
end

section
/-! PROOF. START in each device state (R147, R168). -/
namespace Sys2Proof.Machine

variable {s : State} {p : Port} {m : Request}

theorem exec_start_in_init (routed : s.Routed p m .start) (init : s.control.device = .init) :
    exec (.start p) s = .next (s.answerStatus p m .notReady) := by
  change execStart p s = _
  simp [execStart, routed.eq, init]

theorem exec_start_in_run (routed : s.Routed p m .start) (run : s.control.device = .run) :
    exec (.start p) s = .next (s.answerStatus p m .ok) := by
  change execStart p s = _
  simp [execStart, routed.eq, run]

theorem exec_start_in_setup (routed : s.Routed p m .start) (setup : s.control.device = .setup) :
    exec (.start p) s = .next ((s.enterRun p).answerStatus p m .ok) := by
  change execStart p s = _
  simp [execStart, routed.eq, setup]

theorem State.changesOnly_setControl (c : ControlBlock) : s.ChangesOnly (s.setControl c) [.control] := by
  intro b hb
  cases b <;> first | rfl | exact absurd (by simp) hb

theorem State.changesOnly_enterRun : s.ChangesOnly (s.enterRun p) [.control, .scrub, .asked] :=
  ((State.changesOnly_setControl _).trans (State.changesOnly_setScrub _)).trans (State.changesOnly_ask _)

/-- At interval 0 the scrub timer stays stopped (R147). -/
theorem ScrubEngine.atRun_timer_of_zero {interval : Nat} (h : interval = 0) :
    (ScrubEngine.atRun interval).timer = .stopped := if_pos h

theorem ScrubEngine.atRun_timer_of_ne_zero {interval : Nat} (h : interval ≠ 0) :
    (ScrubEngine.atRun interval).timer = .running interval := if_neg h

/-- Settles O51: the START is turned away in INIT, changes nothing in RUN, and takes the device from SETUP to RUN. -/
theorem startTaken : Obligations.StartTaken := by
  refine fun s p m routed => ⟨fun init => ?init, fun run => ?run, fun setup => ?setup⟩
  case init => exact ⟨_, exec_start_in_init routed init, State.refusedWith_answerStatus p m .notReady⟩
  case run => exact ⟨_, exec_start_in_run routed run, State.refusedWith_answerStatus p m .ok⟩
  case setup =>
    exact ⟨_, exec_start_in_setup routed setup, rfl, rfl, rfl, rfl, ScrubEngine.atRun_timer_of_zero,
      ScrubEngine.atRun_timer_of_ne_zero, rfl, State.answeredWith_answer (s.enterRun_ports p) p _,
      State.remarked_answer (u := s.enterRun p) rfl p _,
      State.changesOnly_enterRun.trans (State.changesOnly_answer p _)⟩

end Sys2Proof.Machine
end

section
/-! PROOF. The notice log: FETCH-NOTICE takes the oldest record held for a port (R160, R162), and every step keeps the
log sound (R154, R156, R162 to R164, R167). -/
namespace Sys2Proof.Machine

variable {s t : State} {p q : Port} {m : Request}

/-! ### The records held for a port -/

section
variable {r : NoticeRecord} {l l' : List NoticeRecord}

theorem heldFor_iff : heldFor q l = true ↔ ∃ r ∈ l, r.recipients.get q = true := List.any_eq_true

theorem heldFor_eq_false_iff : heldFor q l = false ↔ ∀ r ∈ l, r.recipients.get q = false := by simp [heldFor]

@[simp] theorem heldFor_nil : heldFor q [] = false := rfl

@[simp] theorem heldFor_cons : heldFor q (r :: l) = (r.recipients.get q || heldFor q l) := rfl

@[simp] theorem heldFor_append : heldFor q (l ++ l') = (heldFor q l || heldFor q l') := List.any_append

@[simp] theorem NoticeRecord.get_without : (r.without p).recipients.get q = (r.recipients.get q && decide (q ≠ p)) :=
  PortSet.get_without _ _ _

/-- A set with a member is not empty. -/
theorem PortSet.isEmpty_eq_false {a : PortSet} (h : a.get q = true) : PortSet.isEmpty a = false :=
  Bool.eq_false_iff.mpr fun empty => by simp [(PortSet.isEmpty_iff a).mp empty q] at h

/-- The records once a port has left every recipient set; those with nobody left are gone (R160, R163). -/
def recordsWithout (p : Port) (l : List NoticeRecord) : List NoticeRecord :=
  (l.map (NoticeRecord.without p)).filter fun r => !PortSet.isEmpty r.recipients

theorem NoticeLog.forget_records (log : NoticeLog) : (log.forget p).records = recordsWithout p log.records := rfl

theorem mem_recordsWithout {x : NoticeRecord} :
    x ∈ recordsWithout p l ↔ (∃ r ∈ l, r.without p = x) ∧ PortSet.isEmpty x.recipients = false := by
  simp [recordsWithout]

theorem length_recordsWithout_le : (recordsWithout p l).length ≤ l.length :=
  Nat.le_trans (List.length_filter_le _ _) (Nat.le_of_eq (List.length_map _))

/-- Leaving the recipient sets ends what is held for the port, and nothing that is held for another. -/
@[simp] theorem heldFor_recordsWithout : heldFor q (recordsWithout p l) = (heldFor q l && decide (q ≠ p)) := by
  refine Bool.eq_iff_iff.mpr ?_
  simp only [heldFor_iff, mem_recordsWithout, Bool.and_eq_true, decide_eq_true_eq]
  constructor
  · rintro ⟨_, ⟨⟨r, hr, rfl⟩, -⟩, held⟩
    obtain ⟨held, other⟩ := Bool.and_eq_true_iff.mp (NoticeRecord.get_without.symm.trans held)
    exact ⟨⟨r, hr, held⟩, of_decide_eq_true other⟩
  · rintro ⟨⟨r, hr, held⟩, other⟩
    have still : (r.without p).recipients.get q = true := by simp [held, other]
    exact ⟨r.without p, ⟨⟨r, hr, rfl⟩, PortSet.isEmpty_eq_false still⟩, still⟩

/-- A record held for this port alone leaves the list with it (R160). -/
theorem recordsWithout_of_only (only : ∀ q, q ≠ p → r.recipients.get q = false) : recordsWithout p [r] = [] := by
  have empty : PortSet.isEmpty (r.without p).recipients = true :=
    (PortSet.isEmpty_iff _).mpr fun q => by
      by_cases other : q = p <;> simp [other, only]
  simp [recordsWithout, empty]

/-- A record held for another port stays, without this one (R160). -/
theorem recordsWithout_of_other (other : q ≠ p) (held : r.recipients.get q = true) :
    recordsWithout p [r] = [r.without p] := by
  have still : PortSet.isEmpty (r.without p).recipients = false :=
    PortSet.isEmpty_eq_false (q := q) (by simp [held, other])
  simp [recordsWithout, still]

/-! ### The oldest record held for a port -/

theorem fetchFor_eq_none (none_held : ∀ r ∈ l, r.recipients.get p = false) : fetchFor p l = none := by
  induction l with
  | nil => rfl
  | cons r rest ih =>
    obtain ⟨head, tail⟩ := List.forall_mem_cons.mp none_held
    simp [fetchFor, head, ih tail]

/-- The oldest record held for the port is fetched; every other record stands (R160). -/
theorem fetchFor_oldest {older newer : List NoticeRecord} (passed : ∀ x ∈ older, x.recipients.get p = false)
    (held : r.recipients.get p = true) :
    fetchFor p (older ++ r :: newer) = some (r.image, older ++ (recordsWithout p [r] ++ newer)) := by
  induction older with
  | nil =>
    simp only [List.nil_append, fetchFor, held, if_true]
    cases empty : PortSet.isEmpty (r.without p).recipients <;> simp [recordsWithout, empty]
  | cons x rest ih =>
    obtain ⟨head, tail⟩ := List.forall_mem_cons.mp passed
    simp [fetchFor, head, ih tail]

/-- Either no record is held for the port, or one of those held is the oldest. -/
theorem none_held_or_oldest (p : Port) (l : List NoticeRecord) :
    (∀ r ∈ l, r.recipients.get p = false) ∨
      ∃ older r newer, l = older ++ r :: newer ∧ (∀ x ∈ older, x.recipients.get p = false) ∧
        r.recipients.get p = true := by
  cases found : l.find? fun r => r.recipients.get p with
  | none => exact .inl (by simpa using found)
  | some r =>
    obtain ⟨held, older, newer, split, passed⟩ := List.find?_eq_some_iff_append.mp found
    exact .inr ⟨older, r, newer, split, by simpa using passed, held⟩

end

/-! ### FETCH-NOTICE -/

section
variable (routed : s.Routed p m .fetchNotice)
include routed

theorem exec_fetchNotice_of_none (none_held : ∀ r ∈ s.log.records, r.recipients.get p = false) :
    exec (.fetchNotice p) s = .next (s.answerStatus p m .noNotice) := by
  change execFetchNotice p s = _
  simp [execFetchNotice, routed.eq, fetchFor_eq_none none_held]

theorem exec_fetchNotice_oldest {older newer : List NoticeRecord} {r : NoticeRecord}
    (split : s.log.records = older ++ r :: newer) (passed : ∀ x ∈ older, x.recipients.get p = false)
    (held : r.recipients.get p = true) :
    exec (.fetchNotice p) s =
      .next ((s.setLog (s.log.fetched p (older ++ (recordsWithout p [r] ++ newer)))).answer p
        { plainResponse m .ok with image := some (.notice r.image) }) := by
  change execFetchNotice p s = _
  simp [execFetchNotice, routed.eq, split, fetchFor_oldest passed held]

end

theorem State.changesOnly_setLog_fetched (l : List NoticeRecord) :
    s.ChangesOnly (s.setLog (s.log.fetched p l)) [.records, .lines] := by
  intro b hb
  cases b <;> first | rfl | exact absurd (by simp) hb

/-- Settles O48: without a record for the port, and with the oldest of those held for it. -/
theorem fetchNoticeTaken : Obligations.FetchNoticeTaken := by
  refine fun s p m routed => ⟨fun none_held => ⟨_, exec_fetchNotice_of_none routed none_held,
    State.refusedWith_answerStatus p m .noNotice⟩, fun older r newer split passed held =>
    ⟨_, exec_fetchNotice_oldest routed split passed held, State.answeredWith_answer rfl p _, fun only => ?emptied,
      fun q other also => ?kept, ?line, fun q other => PerPort.get_set_of_ne _ _ other,
      State.remarked_answer rfl p _, (State.changesOnly_setLog_fetched _).trans (State.changesOnly_answer p _)⟩⟩
  case emptied => simp [NoticeLog.fetched, recordsWithout_of_only only]
  case kept => simp [NoticeLog.fetched, recordsWithout_of_other other also, NoticeRecord.without, PortSet.without]
  case line =>
    rw [← heldFor_iff]
    simp [NoticeLog.fetched, heldFor_eq_false_iff.mpr passed]

end Sys2Proof.Machine
end

section
/-! PROOF. Every step keeps the notice log sound: at most 16 records, each held for ACTIVE ports alone, and every line
as the records say (R154, R156, R162 to R164); of the requests that wait only the oldest can be READY (R167). -/
namespace Sys2Proof.Machine

variable {s t : State} {p q : Port} {m : Request} {k : RequestKind}

/-! ### What the log does to its records -/

/-- What `State.LogSound` says of the records, the lost count and the lines, whatever waits, for a set of ACTIVE
ports. -/
structure NoticeLog.RecordsSound (l : NoticeLog) (active : PortSet) : Prop where
  room : l.records.length ≤ 16
  lost : l.lost ≤ 255
  nonempty : ∀ r ∈ l.records, PortSet.isEmpty r.recipients = false
  active : ∀ r ∈ l.records, ∀ p, r.recipients.get p = true → active.get p = true
  lines : ∀ p, l.lines.get p = heldFor p l.records

theorem State.logSound_iff : s.LogSound ↔ s.log.RecordsSound s.activePorts ∧ .ready ∉ s.log.asked.tail := by
  constructor
  · rintro ⟨room, lost, nonempty, active, lines, readyFirst⟩
    have active' (r) (hr : r ∈ s.log.records) (p) (hp : r.recipients.get p = true) : s.activePorts.get p = true := by
      simpa [State.isActive] using active r hr p hp
    exact ⟨⟨room, lost, nonempty, active', lines⟩, readyFirst⟩
  · rintro ⟨⟨room, lost, nonempty, active, lines⟩, readyFirst⟩
    have active' (r) (hr : r ∈ s.log.records) (p) (hp : r.recipients.get p = true) : (s.port p).state = .active := by
      simpa [State.isActive] using active r hr p hp
    exact ⟨room, lost, nonempty, active', lines, readyFirst⟩

section
variable {l : NoticeLog} {active active' : PortSet}

/-- What waits plays no part in the records. -/
theorem NoticeLog.RecordsSound.withAsked (h : l.RecordsSound active) (waiting : List NoticeRequest) :
    NoticeLog.RecordsSound { l with asked := waiting } active :=
  ⟨h.room, h.lost, h.nonempty, h.active, h.lines⟩

theorem NoticeLog.RecordsSound.mono (h : l.RecordsSound active)
    (grown : ∀ q, active.get q = true → active'.get q = true) : l.RecordsSound active' :=
  { h with active := fun r hr q hq => grown q (h.active r hr q hq) }

/-- A new record has ACTIVE recipients and raises their lines; past 16 it is counted, up to 255 (R155, R156, R162). -/
theorem NoticeLog.RecordsSound.take (h : l.RecordsSound active) (r : NoticeRequest) :
    (l.take active r).RecordsSound active := by
  unfold NoticeLog.take NoticeLog.create
  split
  next => exact h
  next nonempty =>
    split
    next below =>
      refine ⟨?room, h.lost, ?nonempty, ?active, ?lines⟩
      case room =>
        rw [List.length_append]
        exact Nat.succ_le_of_lt below
      case nonempty =>
        simpa [or_imp, forall_and] using And.intro h.nonempty (Bool.eq_false_iff.mpr nonempty)
      case active =>
        simpa [or_imp, forall_and] using And.intro h.active fun p => NoticeRequest.active_of_recipient
      case lines => simp [h.lines]
    next => exact { h with lost := Nat.min_le_left _ _ }

theorem NoticeLog.RecordsSound.takeAll (h : l.RecordsSound active) : (l.takeAll active).RecordsSound active :=
  NoticeLog.takeAll_induction (P := fun l => l.RecordsSound active) active (fun _ r h => h.take r) l
    (h.withAsked [])

/-- Who is left on a record that the port has left was on it before, and is another port. -/
theorem NoticeLog.RecordsSound.active_of_left (h : l.RecordsSound active) {x : NoticeRecord}
    (hx : x ∈ recordsWithout p l.records) (held : x.recipients.get q = true) : active.get q = true ∧ q ≠ p := by
  obtain ⟨⟨r, hr, rfl⟩, -⟩ := mem_recordsWithout.mp hx
  obtain ⟨held, other⟩ : r.recipients.get q = true ∧ q ≠ p := by simpa using held
  exact ⟨h.active r hr q held, other⟩

/-- A port that leaves ACTIVE is in no recipient set, and its line is low (R163). -/
theorem NoticeLog.RecordsSound.forget (h : l.RecordsSound active)
    (others : ∀ q, q ≠ p → active.get q = true → active'.get q = true) : (l.forget p).RecordsSound active' := by
  refine ⟨Nat.le_trans length_recordsWithout_le h.room, h.lost, fun x hx => (mem_recordsWithout.mp hx).2,
    fun x hx q held => ?active, fun q => ?lines⟩
  case active =>
    obtain ⟨active, other⟩ := h.active_of_left hx held
    exact others q other active
  case lines =>
    rw [NoticeLog.forget_records, heldFor_recordsWithout, ← h.lines]
    exact PortSet.get_without _ _ _

/-- The port that fetches leaves one record, and its line follows what is then held for it (R160, R162). -/
theorem NoticeLog.RecordsSound.fetched (h : l.RecordsSound active) {older newer : List NoticeRecord} {r : NoticeRecord}
    (split : l.records = older ++ r :: newer) :
    (l.fetched p (older ++ (recordsWithout p [r] ++ newer))).RecordsSound active := by
  have stands_or_left : ∀ x ∈ older ++ (recordsWithout p [r] ++ newer),
      x ∈ l.records ∨ x ∈ recordsWithout p l.records := by
    simp only [List.mem_append, mem_recordsWithout, split]
    grind
  refine ⟨?room, h.lost, fun x hx => ?nonempty, fun x hx q held => ?active, fun q => ?lines⟩
  case room =>
    have room := h.room
    have shorter := length_recordsWithout_le (p := p) (l := [r])
    simp only [split, NoticeLog.fetched, List.length_append, List.length_cons, List.length_nil] at room shorter ⊢
    omega
  case nonempty =>
    rcases stands_or_left x hx with stands | left
    · exact h.nonempty x stands
    · exact (mem_recordsWithout.mp left).2
  case active =>
    rcases stands_or_left x hx with stands | left
    · exact h.active x stands q held
    · exact (h.active_of_left left held).1
  case lines =>
    by_cases same : q = p
    · subst same
      exact PerPort.get_set_same _ _ _
    · have before : l.lines.get q = (heldFor q older || (r.recipients.get q || heldFor q newer)) := by
        rw [h.lines, split, heldFor_append, heldFor_cons]
      simp [NoticeLog.fetched, same, before]

end

/-! ### Steps that leave the records -/

@[simp] theorem PortRecord.becomeCurrent_state (check : Request → Option Status) (r : PortRecord) :
    (r.becomeCurrent check).state = r.state := by
  unfold PortRecord.becomeCurrent
  split <;> rfl

@[simp] theorem PortRecord.answered_state (resp : Response) (r : PortRecord) : (r.answered resp).state = r.state := by
  unfold PortRecord.answered
  split <;> rfl

@[simp] theorem PortRecord.deliver_state (r : PortRecord) : r.deliver.state = r.state := by
  unfold PortRecord.deliver
  split <;> rfl

/-- Requests other than READY, handed over behind those that wait, leave READY at most the oldest (log entry 25). -/
theorem ready_not_mem_tail_append {waiting l : List NoticeRequest} (first : .ready ∉ waiting.tail)
    (others : .ready ∉ l) : NoticeRequest.ready ∉ (waiting ++ l).tail := by
  rw [List.tail_append]
  split
  · exact fun ready => others (List.mem_of_mem_tail ready)
  · simp [first, others]

section
variable (hs : s.LogSound)
include hs

theorem State.LogSound.of_stands (log : t.log = s.log) (states : ∀ q, (t.port q).state = (s.port q).state) :
    t.LogSound where
  room := by rw [log]; exact hs.room
  lost := by rw [log]; exact hs.lost
  nonempty := by rw [log]; exact hs.nonempty
  active := by simp only [log, states]; exact hs.active
  lines := by rw [log]; exact hs.lines
  readyFirst := by rw [log]; exact hs.readyFirst

/-- A step that leaves the log and the ports keeps the log sound. -/
theorem State.LogSound.of_blocks (log : t.log = s.log) (ports : t.ports = s.ports) : t.LogSound :=
  hs.of_stands log fun q => congrArg PortRecord.state (State.port_congr ports q)

theorem State.LogSound.setPort {r : PortRecord} (state : r.state = (s.port p).state) : (s.setPort p r).LogSound :=
  hs.of_stands rfl fun q => by
    by_cases h : q = p
    · subst h
      simpa using state
    · simp [h]

/-- What is handed to the log waits behind the rest, and is not READY (log entry 25). -/
theorem State.LogSound.ask {l : List NoticeRequest} (others : .ready ∉ l) : (s.ask l).LogSound :=
  { hs with readyFirst := ready_not_mem_tail_append hs.readyFirst others }

/-- An answer changes no port's state (R30). -/
theorem State.LogSound.answer (r : Response) : (s.answer p r).LogSound :=
  hs.of_stands rfl fun q => by
    by_cases h : q = p
    · subst h
      rw [State.port_answer_same, PortRecord.becomeCurrent_state, PortRecord.answered_state]
    · rw [State.port_answer_of_ne _ r h]

theorem State.LogSound.serveNext : (s.serveNext p).LogSound :=
  (hs.setPort (PortRecord.becomeCurrent_state _ _)).of_blocks rfl rfl

theorem State.LogSound.arrive : (s.arrive p m).LogSound := by
  unfold State.arrive
  split
  · have accepted : (s.setPort p ((s.port p).accepted m)).LogSound := hs.setPort rfl
    dsimp only
    split
    · exact accepted
    · exact accepted.serveNext
  · exact hs.ask (by simp)

/-- A grant, refused or not, hands nothing to the log (R111). -/
theorem State.LogSound.grantOf : (s.grantOf p m k).LogSound := by
  have granted : (s.toGranted p m).LogSound :=
    (hs.of_blocks (t := s.setArbiter (s.arbiterAfter p)) rfl rfl).setPort rfl
  unfold State.grantOf
  split
  case h_1 =>
    unfold State.grantLockedRead
    dsimp only
    split
    · exact granted.answer _
    · split
      · exact granted.answer _
      · exact granted.of_blocks rfl rfl
  case h_2 =>
    unfold State.grantCondWrite
    dsimp only
    split
    · exact granted.answer _
    · split
      · exact granted.of_blocks rfl rfl
      · exact granted.answer _
  case h_3 =>
    unfold State.grantPlain
    dsimp only
    split
    · exact granted.answer _
    · exact granted.of_blocks rfl rfl

/-! ### Completions -/

theorem State.LogSound.reportOf (o : Operation) : (s.reportOf o).LogSound := by
  unfold State.reportOf State.report
  split
  next d a _ _ =>
    split
    case h_1 => exact hs
    case h_2 sub bad _ =>
      unfold State.reportSingle
      dsimp only
      refine State.LogSound.ask ?_ ?_
      · split
        · exact hs.of_blocks rfl rfl
        · exact hs
      · split <;> split <;> simp
    case h_3 => exact hs.ask (by simp)
    case h_4 => exact hs.ask (by simp)
  next => exact hs
  next => exact hs

theorem State.LogSound.servePort (o : Operation) : (s.servePort o).LogSound := by
  unfold State.servePort
  split
  next t _ =>
    have reserved : (s.reserveOf o t).LogSound := hs.of_blocks (by simp) (by simp)
    unfold State.giveAnswer
    split
    · exact reserved.setPort rfl
    · exact reserved.answer _
  all_goals exact hs

theorem State.LogSound.complete (o : Operation) : (s.complete o).LogSound := by
  have landed : (s.landWrite o).LogSound := hs.of_blocks (by simp) (by simp)
  exact ((landed.reportOf o).servePort o).of_blocks rfl rfl

end

/-! ### Steps in which the log takes requests, or forgets a port -/

/-- The notices that a port reset hands over, one for each offer it cuts (R78). -/
def cutNotices (p : Port) (l : List OfferEntry) : List NoticeRequest :=
  l.map fun o => .offerCutByReset o.page p (o.otherParty p)

theorem ready_not_mem_cutNotices (l : List OfferEntry) : .ready ∉ cutNotices p l := by simp [cutNotices]

section
variable (s)

theorem State.foldl_cutOffer_ports (l : List OfferEntry) : (l.foldl (State.cutOffer p) s).ports = s.ports := by
  induction l generalizing s with
  | nil => rfl
  | cons o rest ih => rw [List.foldl_cons, ih, State.cutOffer_ports]

theorem State.foldl_cutOffer_log (l : List OfferEntry) :
    (l.foldl (State.cutOffer p) s).log = { s.log with asked := s.log.asked ++ cutNotices p l } := by
  induction l generalizing s with
  | nil => simp [cutNotices]
  | cons o rest ih => simp [ih, State.cutOffer, cutNotices]

/-- The offers that are cut hand their notices to the log, which then forgets the port (R78, R163). -/
theorem State.portReset_log :
    (s.portReset p).log =
      NoticeLog.forget
        { s.log with asked := s.log.asked ++ cutNotices p (s.pageMap.offers.filter fun o => o.names p) } p := by
  simp [State.portReset, State.cutOffers, State.foldl_cutOffer_log]

@[simp] theorem State.portReset_ports : (s.portReset p).ports = s.ports.set p (s.port p).portReset := by
  simp [State.portReset, State.cutOffers, State.foldl_cutOffer_ports]

end

section
variable (hs : s.LogSound)
include hs

/-- READY is handed over when nothing else waits (R164, R167; log entry 25). -/
theorem State.LogSound.endInitClear : s.endInitClear.LogSound := by
  obtain ⟨records, -⟩ := State.logSound_iff.mp hs
  exact State.logSound_iff.mpr ⟨records.takeAll.withAsked _, by simp [State.endInitClear_asked]⟩

theorem State.LogSound.advanceClear : s.advanceClear.LogSound := by
  unfold State.advanceClear
  split
  · exact hs
  · split
    · exact hs.of_blocks rfl rfl
    next n rest _ _ =>
      have freed : (s.pageFreed n rest).LogSound := hs.of_blocks rfl rfl
      by_cases ends : rest = [] ∧ s.control.device = .init
      · rw [State.finishPage_of_ends ends.1 ends.2]
        exact freed.endInitClear
      · rw [State.finishPage_of_stays (Decidable.not_and_iff_not_or_not.mp ends)]
        exact freed

/-- A port that enters ACTIVE is in no record yet, and takes nobody out of one (R35). -/
theorem State.LogSound.enterActive : (s.enterActive p).LogSound := by
  obtain ⟨records, -⟩ := State.logSound_iff.mp hs
  refine State.logSound_iff.mpr ⟨records.takeAll.mono fun q active => ?_, by simp⟩
  by_cases h : q = p
  · subst h
    simp [State.enterActive, State.isActive, PortRecord.enterActive]
  · rw [State.activePorts_get, State.isActive] at active ⊢
    rw [State.enterActive, State.port_setPort_of_ne _ _ h]
    exact active

theorem State.LogSound.portReset : (s.portReset p).LogSound := by
  obtain ⟨records, readyFirst⟩ := State.logSound_iff.mp hs
  refine State.logSound_iff.mpr ?_
  rw [State.portReset_log]
  refine ⟨(records.withAsked _).forget fun q other active => ?active, ?readyFirst⟩
  case active =>
    simp only [State.activePorts_get, State.isActive, State.port, State.portReset_ports,
      PerPort.get_set_of_ne _ _ other] at active ⊢
    exact active
  case readyFirst => exact ready_not_mem_tail_append readyFirst (ready_not_mem_cutNotices _)

theorem execNoticeRecordCreate_logSound (asker : Asker) : Answers (execNoticeRecordCreate asker s) State.LogSound := by
  obtain ⟨records, readyFirst⟩ := State.logSound_iff.mp hs
  unfold execNoticeRecordCreate
  split
  next => exact (answers_next _).mpr hs
  next r _ =>
    refine (answers_next _).mpr (State.logSound_iff.mpr ⟨(records.withAsked _).take r, ?_⟩)
    rw [State.setLog_log, NoticeLog.take_asked]
    exact fun ready => readyFirst ((List.eraseP_sublist.tail).subset ready)

theorem execFetchNotice_logSound : Answers (execFetchNotice p s) State.LogSound := by
  obtain ⟨records, readyFirst⟩ := State.logSound_iff.mp hs
  refine answers_serving hs fun m => ?_
  rcases none_held_or_oldest p s.log.records with none_held | ⟨older, r, newer, split, passed, held⟩
  · rw [fetchFor_eq_none none_held]
    exact (answers_next _).mpr (hs.answer _)
  · rw [split, fetchFor_oldest passed held]
    have fetched : (s.setLog (s.log.fetched p (older ++ (recordsWithout p [r] ++ newer)))).LogSound :=
      State.logSound_iff.mpr ⟨records.fetched split, readyFirst⟩
    exact (answers_next _).mpr (fetched.answer _)

/-! ### Requests that hand a notice to the log, or clear the lost count -/

theorem State.LogSound.makeOffer {n : Nat} : (s.makeOffer n p q).LogSound := by
  have offered (e : PageEntry) (l : List OfferEntry) : ((s.setEntry n e).setOffers l).LogSound := hs.of_blocks rfl rfl
  exact (offered _ _).ask (by simp)

theorem State.LogSound.takeOver {n : Nat} {o : OfferEntry} : (s.takeOver n p o).LogSound := by
  have accepted (e : PageEntry) : (((s.setEntry n e).removeOffer n).dropReservations (Reservation.onPage n)).LogSound :=
    hs.of_blocks rfl rfl
  exact (accepted _).ask (by simp)

theorem State.LogSound.enterRun : (s.enterRun p).LogSound := by
  have running (c : ControlBlock) (e : ScrubEngine) : ((s.setControl c).setScrub e).LogSound := hs.of_blocks rfl rfl
  exact (running _ _).ask (by simp)

theorem State.LogSound.writeLostCount : (s.writeLostCount p m).LogSound := by
  have cleared : (s.setLog { s.log with lost := 0 }).LogSound := { hs with lost := Nat.zero_le _ }
  unfold State.writeLostCount
  split
  · exact cleared.answer _
  · exact hs.answer _

theorem State.LogSound.writeItem : (s.writeItem p m).LogSound := by
  unfold State.writeItem
  split
  · exact hs.answer _
  · split
    · exact hs.answer _
    next items _ =>
      have written : (s.setControl { s.control with items := items }).LogSound := hs.of_blocks rfl rfl
      exact written.answer _

end

/-- After a reset of the log, cold reset or its release, nothing is in it (R164). -/
theorem State.logSound_of_afterColdReset (h : s.log = .afterColdReset) : s.LogSound := by
  refine ⟨?_, ?_, ?_, ?_, fun p => ?_, ?_⟩ <;> simp [h, NoticeLog.afterColdReset, heldFor]

/-! ### Every command, and every step -/

/-- A request that is judged keeps the log sound when its success does (R60). -/
theorem answers_judged_logSound {verdict : Option Status} (hs : s.LogSound) (passed : t.LogSound) :
    Answers (match verdict with | some st => .next (s.answerStatus p m st) | none => .next (t.answerStatus p m .ok))
      State.LogSound :=
  answers_judged (fun _ => hs.answer _) (passed.answer _)

section
variable (hs : s.LogSound)
include hs

theorem portGrant_logSound {i : Instr} (grant : (i, k) ∈ portGrants p) : Answers (exec i s) State.LogSound := by
  rw [exec_portGrant grant, answers_next]
  cases s.grantable p k with
  | none => exact hs
  | some m => exact hs.grantOf

/-- Every command keeps the log sound. -/
theorem exec_logSound (i : Instr) : Answers (exec i s) State.LogSound := by
  cases i with
  | nrstFalls => exact (answers_next _).mpr (State.logSound_of_afterColdReset rfl)
  | nrstRises msize pen => exact answers_ite hs (State.logSound_of_afterColdReset rfl)
  | prstFalls p =>
    have fallen : (s.setPrst p false).LogSound := hs.of_blocks rfl rfl
    exact answers_ite fallen.portReset fallen
  | prstRises p =>
    have risen : (s.setPrst p true).LogSound := hs.of_blocks rfl rfl
    exact answers_ite risen.enterActive risen
  | linkUpDelivered p => exact answers_ite (hs.setPort rfl) hs
  | requestArrives p w0 w1 w2 => exact answers_ite hs.arrive hs
  | responseDelivered p => exact answers_ite (hs.setPort (PortRecord.deliver_state _)) hs
  | read p => exact portGrant_logSound hs (p := p) (k := .read) (by simp [portGrants])
  | write p => exact portGrant_logSound hs (p := p) (k := .write) (by simp [portGrants])
  | mergeWrite p => exact portGrant_logSound hs (p := p) (k := .mergeWrite) (by simp [portGrants])
  | lockedRead p => exact portGrant_logSound hs (p := p) (k := .lockedRead) (by simp [portGrants])
  | condWrite p => exact portGrant_logSound hs (p := p) (k := .condWrite) (by simp [portGrants])
  | refreshGrant | clearGrant | scrubGrant | scrubIntervalRunsOut | reservationLifetimeRunsOut =>
    exact answers_ite (hs.of_blocks rfl rfl) hs
  | readingEnds flips =>
    change Answers (execReadingEnds flips s) _
    unfold execReadingEnds
    split
    · exact (answers_next _).mpr hs
    · split
      · exact (answers_next _).mpr hs
      · exact (answers_next _).mpr (hs.of_blocks rfl rfl)
  | readOpCompletes | storeCompletes | checkedStoreCompletes | mergeCompletes =>
    exact answers_completion hs hs.complete
  | refreshCompletes | scrubCompletes => exact answers_completion hs fun o => (hs.complete o).of_blocks rfl rfl
  | clearCompletes => exact answers_completion hs fun o => (hs.complete o).advanceClear
  | refreshIntervalRunsOut =>
    have restarted : (s.setRefresh (s.refresh.ranOut s.control.items.refreshInterval)).LogSound := hs.of_blocks rfl rfl
    refine answers_ite ?_ hs
    split
    · exact restarted
    · exact restarted.ask (by simp)
  | offerLifetimeRunsOut page =>
    have ended : ((s.removeOffer page).backToHeld page).LogSound := hs.of_blocks rfl rfl
    change Answers (execOfferLifetimeRunsOut page s) _
    unfold execOfferLifetimeRunsOut
    split
    · exact (answers_next _).mpr hs
    · exact (answers_next _).mpr (ended.ask (by simp))
  | unlock p =>
    refine answers_serving hs fun m => ?_
    have dropped : (s.dropReservations (Reservation.isOn p m.addr)).LogSound := hs.of_blocks rfl rfl
    exact answers_ite (dropped.answer _) (hs.answer _)
  | claim | revoke | withdraw =>
    exact answers_serving hs fun m => answers_judged_logSound hs (hs.of_blocks rfl rfl)
  | grant | release => exact answers_serving hs fun m => answers_judged_logSound hs (hs.of_blocks (by simp) (by simp))
  | offer p => exact answers_serving hs fun m => answers_judged_logSound hs hs.makeOffer
  | accept p =>
    refine answers_serving hs fun m => ?_
    split
    · exact (answers_next _).mpr (hs.answer _)
    · exact (answers_next _).mpr (hs.takeOver.answer _)
  | pageQuery p => exact answers_serving hs fun m => (answers_next _).mpr (hs.answer _)
  | fetchNotice p => exact execFetchNotice_logSound hs
  | ctlRead p => exact answers_serving hs fun m => by split <;> exact (answers_next _).mpr (hs.answer _)
  | ctlWrite p =>
    refine answers_serving hs fun m => ?_
    split
    · exact (answers_next _).mpr hs.writeLostCount
    · exact answers_ite hs.writeItem (hs.answer _)
  | lostCount p => exact answers_serving hs fun m => answers_ite hs.writeLostCount hs
  | start p =>
    refine answers_serving hs fun m => ?_
    split
    · exact (answers_next _).mpr (hs.answer _)
    · exact (answers_next _).mpr (hs.enterRun.answer _)
    · exact (answers_next _).mpr (hs.answer _)
  | noticeRecordCreate asker => exact execNoticeRecordCreate_logSound hs asker

theorem step_logSound : Answers (step s) State.LogSound := by
  unfold step
  split
  · exact (answers_next _).mpr hs
  next c rest _ => exact exec_logSound (s := s.withPending rest) (hs.of_blocks rfl rfl) c

end

/-- Settles O57: a step is the front command executed on a state with the same log and ports, and every command keeps
the log sound, whether it leaves the log, hands it a request, takes from it or empties it. -/
theorem logStaysSound : Obligations.LogStaysSound := fun _ t hs ht => step_logSound hs t ht

end Sys2Proof.Machine
end

section
/-! PROOF. CTL-WRITE: the index, the device state and the value, in this order (R173), and the LOST COUNT word
(R165). -/
namespace Sys2Proof.Machine

variable {s : State} {p : Port} {m : Request}

/-! ### The configuration items -/

/-- The index of each item with the least and the greatest value it takes (R172). -/
def itemRanges : List (Nat × Nat × Nat) :=
  [(8, 1, 31), (9, 0, 65535), (10, 1, 65535), (11, 1, 65535), (12, 0, 1), (13, 0, 1), (14, 0, 255),
    (15, 0, 1), (16, 0, 1), (17, 0, 1), (18, 0, 1)]

/-- The items after a write of a value, by the index written (R172). -/
def ConfigItems.afterWrite (c : ConfigItems) (v : Nat) : List (Nat × ConfigItems) :=
  [(8, { c with refreshInterval := v }), (9, { c with scrubInterval := v }), (10, { c with reservationLifetime := v }),
    (11, { c with offerLifetime := v }), (12, { c with writeBack := decide (v = 1) }),
    (13, { c with logging := decide (v = 1) }), (14, { c with weakThreshold := v }),
    (15, { c with priority := c.priority.set .p0 (decide (v = 1)) }),
    (16, { c with priority := c.priority.set .p1 (decide (v = 1)) }),
    (17, { c with priority := c.priority.set .p2 (decide (v = 1)) }),
    (18, { c with priority := c.priority.set .p3 (decide (v = 1)) })]

section
variable {c written items : ConfigItems} {v i low high : Nat}

/-- A write is taken exactly with a value in the item's range (R172, R173). -/
theorem ConfigItems.write_isSome_iff (range : (i, low, high) ∈ itemRanges) :
    (c.write v i).isSome = true ↔ low ≤ v ∧ v ≤ high := by
  have rows : ∀ row ∈ itemRanges, (c.write v row.1).isSome = true ↔ row.2.1 ≤ v ∧ v ≤ row.2.2 := by
    simp [itemRanges, ConfigItems.write]
  exact rows _ range

/-- A write that is taken changes the item of its index alone (R172). -/
theorem ConfigItems.eq_of_write (taken : c.write v i = some written) (row : (i, items) ∈ c.afterWrite v) :
    written = items := by
  have rows : ∀ row ∈ c.afterWrite v, c.write v row.1 = some written → row.2 = written := by
    simp only [ConfigItems.afterWrite, List.forall_mem_cons, ConfigItems.write, Option.ite_none_right_eq_some,
      Option.some.injEq]
    simp
  exact (rows _ row taken).symm

end

/-! ### The write of an item -/

theorem State.writeItem_in_init (init : s.control.device = .init) : s.writeItem p m = s.answerStatus p m .notReady := by
  simp [State.writeItem, judgeDevice, init]

theorem State.writeItem_in_run (run : s.control.device = .run) : s.writeItem p m = s.answerStatus p m .frozen := by
  simp [State.writeItem, judgeDevice, run]

section
variable (setup : s.control.device = .setup)
include setup

theorem State.writeItem_of_bad_value (bad : s.control.items.write m.data.toNat m.controlIndex = none) :
    s.writeItem p m = s.answerStatus p m .badValue := by
  simp [State.writeItem, judgeDevice, setup, bad]

theorem State.writeItem_of_taken {items : ConfigItems}
    (taken : s.control.items.write m.data.toNat m.controlIndex = some items) :
    s.writeItem p m = (s.setControl { s.control with items := items }).answerStatus p m .ok := by
  simp [State.writeItem, judgeDevice, setup, taken]

end

/-! ### The commands -/

section
variable (routed : s.Routed p m .ctlWrite)
include routed

theorem exec_ctlWrite_item (first : 8 ≤ m.controlIndex) (last : m.controlIndex ≤ 18) :
    exec (.ctlWrite p) s = .next (s.writeItem p m) := by
  have other : m.controlIndex ≠ lostCountIndex := Nat.ne_of_lt (Nat.lt_of_le_of_lt last (by decide))
  change execCtlWrite p s = _
  simp [execCtlWrite, routed.eq, other, isItemIndex, first, last]

/-- A write of an index that names no word to write is refused (R173). -/
theorem exec_ctlWrite_of_bad_index (bad : m.controlIndex < 8 ∨ 18 < m.controlIndex ∧ m.controlIndex ≠ 31) :
    exec (.ctlWrite p) s = .next (s.answerStatus p m .badValue) := by
  have notLost : m.controlIndex ≠ lostCountIndex := by
    unfold lostCountIndex
    omega
  have noItem : isItemIndex m.controlIndex = false := by
    simp only [isItemIndex, Bool.and_eq_false_iff, decide_eq_false_iff_not]
    omega
  change execCtlWrite p s = _
  simp [execCtlWrite, routed.eq, notLost, noItem]

/-- Both rows give a write of LOST COUNT the one effect (R165; log entry 13). -/
theorem exec_writes_lostCount (lost : m.controlIndex = 31) {i : Instr} (row : i ∈ [Instr.ctlWrite p, .lostCount p]) :
    exec i s = .next (s.writeLostCount p m) := by
  simp only [List.mem_cons, List.not_mem_nil, or_false] at row
  rcases row with rfl | rfl
  · change execCtlWrite p s = _
    simp [execCtlWrite, routed.eq, lost, lostCountIndex]
  · change execLostCount p s = _
    simp [execLostCount, routed.eq, lost, lostCountIndex]

theorem exec_lostCount_of_other (other : m.controlIndex ≠ 31) : exec (.lostCount p) s = .next s := by
  change execLostCount p s = _
  simp [execLostCount, routed.eq, other, lostCountIndex]

end

theorem State.changesOnly_setLost (n : Nat) : s.ChangesOnly (s.setLog { s.log with lost := n }) [.lost] := by
  intro b hb
  cases b <;> first | rfl | exact absurd (by simp) hb

/-- Settles O50: the index decides which check the write meets next; an item is judged by the device state and its
range, LOST COUNT by its value alone. -/
theorem ctlWriteTaken : Obligations.CtlWriteTaken := by
  refine fun s p m routed => ⟨fun bad => ?index, fun first last => ⟨fun init => ?init, fun run => ?run,
      fun setup low high range => ⟨fun outside => ?value, fun least greatest => ?item⟩⟩,
    exec_lostCount_of_other routed, fun lost i row => ⟨fun zero => ?zero, fun nonzero => ?nonzero⟩⟩
  case index => exact ⟨_, exec_ctlWrite_of_bad_index routed bad, State.refusedWith_answerStatus p m _⟩
  case init =>
    rw [Completes, exec_ctlWrite_item routed first last, State.writeItem_in_init init]
    exact ⟨_, rfl, State.refusedWith_answerStatus p m _⟩
  case run =>
    rw [Completes, exec_ctlWrite_item routed first last, State.writeItem_in_run run]
    exact ⟨_, rfl, State.refusedWith_answerStatus p m _⟩
  case value =>
    have bad : s.control.items.write m.data.toNat m.controlIndex = none := by
      rw [← Option.not_isSome_iff_eq_none, ConfigItems.write_isSome_iff range]
      omega
    rw [Completes, exec_ctlWrite_item routed first last, State.writeItem_of_bad_value setup bad]
    exact ⟨_, rfl, State.refusedWith_answerStatus p m _⟩
  case item =>
    obtain ⟨written, taken⟩ :=
      Option.isSome_iff_exists.mp ((ConfigItems.write_isSome_iff range).mpr ⟨least, greatest⟩)
    rw [Completes, exec_ctlWrite_item routed first last, State.writeItem_of_taken setup taken]
    refine ⟨_, rfl, fun items row => ?_, State.answeredWith_answer rfl p _, State.remarked_answer rfl p _,
      (State.changesOnly_setControl _).trans (State.changesOnly_answer p _)⟩
    rw [← ConfigItems.eq_of_write taken row]
    rfl
  case zero =>
    rw [Completes, exec_writes_lostCount routed lost row, State.writeLostCount, if_pos zero]
    exact ⟨_, rfl, rfl, State.answeredWith_answer rfl p _, State.remarked_answer rfl p _,
      (State.changesOnly_setLost 0).trans (State.changesOnly_answer p _)⟩
  case nonzero =>
    rw [Completes, exec_writes_lostCount routed lost row, State.writeLostCount, if_neg nonzero]
    exact ⟨_, rfl, State.refusedWith_answerStatus p m _⟩

end Sys2Proof.Machine
end

section
/-! PROOF. CTL-READ: the value at every index (R174 to R177), and the words packed from several fields, each field placed
over lower ones that end below its bit (R181). -/
namespace Sys2Proof.Machine

variable {s : State} {p : Port} {m : Request}

/-! ### Fields placed in a word -/

section
variable {w : Word} {value bit : Nat}

theorem field_zero (value : Nat) : field value 0 = BitVec.ofNat 32 value := BitVec.shiftLeft_zero _

theorem toNat_field (fits : value * 2 ^ bit < 2 ^ 32) : (field value bit).toNat = value * 2 ^ bit := by
  have small : value < 2 ^ 32 := Nat.lt_of_le_of_lt (Nat.le_mul_of_pos_right value (Nat.two_pow_pos bit)) fits
  rw [field, BitVec.toNat_shiftLeft, BitVec.toNat_ofNat, Nat.mod_eq_of_lt small, Nat.shiftLeft_eq, Nat.mod_eq_of_lt fits]

theorem toNat_field_zero (fits : value < 2 ^ 32) : (field value 0).toNat = value := by
  rw [field_zero, BitVec.toNat_ofNat, Nat.mod_eq_of_lt fits]

/-- A field placed over a word that ends below it is added to that word. -/
theorem toNat_or_field (below : w.toNat < 2 ^ bit) (fits : value * 2 ^ bit < 2 ^ 32) :
    (w ||| field value bit).toNat = w.toNat + value * 2 ^ bit := by
  rw [BitVec.toNat_or, toNat_field fits, Nat.or_comm, Nat.mul_comm, ← Nat.two_pow_add_eq_or_of_lt below, Nat.add_comm]

theorem toNat_mul_two_pow_le (b : Bool) (bit : Nat) : b.toNat * 2 ^ bit ≤ 2 ^ bit := by
  cases b <;> simp

theorem toNat_or_flag {b : Bool} (below : w.toNat < 2 ^ bit) (inWord : bit < 32) :
    (w ||| flag b bit).toNat = w.toNat + b.toNat * 2 ^ bit := by
  exact toNat_or_field below (Nat.lt_of_le_of_lt (toNat_mul_two_pow_le b bit) (Nat.pow_lt_pow_right (by decide) inWord))

/-- With a bit placed at its end a word ends one bit later. -/
theorem toNat_or_flag_lt {b : Bool} (below : w.toNat < 2 ^ bit) (inWord : bit < 32) :
    (w ||| flag b bit).toNat < 2 ^ (bit + 1) := by
  have oneBit := toNat_mul_two_pow_le b bit
  rw [toNat_or_flag below inWord, Nat.pow_succ]
  omega

end

/-! ### The packed layouts (R181) -/

/-- A set of ports placed over a word that ends below it is added to that word, one bit for each port. -/
theorem toNat_or_setBits {w : Word} {set : PortSet} {bit : Nat} (below : w.toNat < 2 ^ bit) (inWord : bit + 3 < 32) :
    (w ||| setBits set bit).toNat =
      w.toNat + set.p0.toNat * 2 ^ bit + set.p1.toNat * 2 ^ (bit + 1) + set.p2.toNat * 2 ^ (bit + 2) +
        set.p3.toNat * 2 ^ (bit + 3) := by
  have first := toNat_or_flag_lt (b := set.p0) below (by omega)
  have second := toNat_or_flag_lt (b := set.p1) first (by omega)
  have third := toNat_or_flag_lt (b := set.p2) second (by omega)
  simp only [setBits, ← BitVec.or_assoc]
  rw [toNat_or_flag third inWord, toNat_or_flag second (by omega), toNat_or_flag first (by omega),
    toNat_or_flag below (by omega)]

theorem Straps.toNat_word (straps : Straps) :
    straps.word.toNat = straps.msize.toNat + straps.pen.p0.toNat * 16 + straps.pen.p1.toNat * 32 +
      straps.pen.p2.toNat * 64 + straps.pen.p3.toNat * 128 := by
  have code : (straps.msize.setWidth 32).toNat = straps.msize.toNat := BitVec.toNat_setWidth_of_le (by decide)
  have below : (straps.msize.setWidth 32).toNat < 2 ^ 4 := by
    rw [code]
    exact Nat.lt_trans straps.msize.isLt (by decide)
  have placed := toNat_or_setBits (set := straps.pen) below (by decide)
  rw [code] at placed
  exact placed

theorem DeviceState.code_eq (d : DeviceState) : d.code = if d = .init then 0 else if d = .setup then 1 else 2 := by
  cases d <;> rfl

theorem PortState.code_eq (state : PortState) :
    state.code = if state = .absent then 0 else if state = .reset then 1 else 2 := by
  cases state <;> rfl

theorem PortState.code_le (state : PortState) : state.code ≤ 2 := by
  cases state <;> decide

theorem toNat_portStatusWord {r : PortRecord} (credits : r.outstanding ≤ 8) (priority : Bool) :
    (portStatusWord r priority).toNat = r.state.code + r.outstanding * 2 ^ 4 + priority.toNat * 2 ^ 8 := by
  have stateLe := r.state.code_le
  have state : (field r.state.code 0).toNat = r.state.code := toNat_field_zero (by omega)
  have counted : (field r.state.code 0 ||| field r.outstanding 4).toNat = r.state.code + r.outstanding * 2 ^ 4 := by
    rw [toNat_or_field (by omega) (by omega), state]
  rw [portStatusWord, toNat_or_flag (by omega) (by decide), counted]

/-- The layout of REFRESH STATUS and CLEAR STATUS: a number in each half of the word. -/
theorem toNat_halves {low high : Nat} (hlow : low < 2 ^ 16) (hhigh : high < 2 ^ 16) :
    (field low 0 ||| field high 16).toNat = low + high * 2 ^ 16 := by
  have first : (field low 0).toNat = low := toNat_field_zero (by omega)
  rw [toNat_or_field (by omega) (by omega), first]

theorem toNat_reservationWord {e : Reservation} (range : e.addr < 2 ^ 22) :
    (reservationWord (some e)).toNat = e.addr + e.port.num * 2 ^ 24 + 2 ^ 31 := by
  have portLt : e.port.num < 4 := by cases e.port <;> decide
  have addr : (field e.addr 0).toNat = e.addr := toNat_field_zero (by omega)
  have held : (field e.addr 0 ||| field e.port.num 24).toNat = e.addr + e.port.num * 2 ^ 24 := by
    rw [toNat_or_field (by omega) (by omega), addr]
  rw [reservationWord, toNat_or_flag (by omega) (by decide), held, Bool.toNat_true, Nat.one_mul]

/-! ### The value at every index -/

/-- The control words that stand one by one: identity, configured size and items (R170, R172, R175, R176). -/
def State.configurationWords (s : State) : List (Nat × Word) :=
  [(0, 0x1D4E#32), (1, 2640#32), (2, 1#32),
    (3, if s.control.device = .init then 0#32 else if s.control.device = .setup then 1#32 else 2#32),
    (4, BitVec.ofNat 32 s.size), (5, BitVec.ofNat 32 s.pageCount), (6, s.control.straps.word),
    (8, BitVec.ofNat 32 s.control.items.refreshInterval), (9, BitVec.ofNat 32 s.control.items.scrubInterval),
    (10, BitVec.ofNat 32 s.control.items.reservationLifetime), (11, BitVec.ofNat 32 s.control.items.offerLifetime),
    (12, BitVec.ofNat 32 s.control.items.writeBack.toNat), (13, BitVec.ofNat 32 s.control.items.logging.toNat),
    (14, BitVec.ofNat 32 s.control.items.weakThreshold)]

/-- The control words of the engines and of the lists the part holds (R177). -/
def State.statusWords (s : State) : List (Nat × Word) :=
  [(24, s.refresh.word), (25, BitVec.ofNat 32 s.scrub.position), (26, s.scrub.passes.setWidth 32),
    (27, s.clear.word), (28, BitVec.ofNat 32 s.pageMap.offers.length),
    (29, BitVec.ofNat 32 s.table.entries.length), (30, BitVec.ofNat 32 s.log.records.length),
    (31, BitVec.ofNat 32 s.log.lost), (32, s.log.sequence.setWidth 32)]

theorem State.controlWord_deviceState (s : State) :
    s.controlWord 3 =
      some (if s.control.device = .init then 0#32 else if s.control.device = .setup then 1#32 else 2#32) := by
  change some (field s.control.device.code 0) = _
  cases s.control.device <;> rfl

theorem State.controlWord_of_configurationWords : ∀ row ∈ s.configurationWords, s.controlWord row.1 = some row.2 := by
  simp only [State.configurationWords, List.forall_mem_cons, s.controlWord_deviceState]
  simp [State.controlWord, field_zero, flag, Config.vendorCode, Config.partCode, Config.revision]

theorem State.controlWord_of_statusWords : ∀ row ∈ s.statusWords, s.controlWord row.1 = some row.2 := by
  simp [State.statusWords, State.controlWord, field_zero]

/-- PORT CLASS (R181). -/
theorem State.controlWord_portClass (q : Port) :
    s.controlWord (15 + q.num) = some (BitVec.ofNat 32 (s.isPriority q).toNat) := by
  cases q <;> exact congrArg some (field_zero _)

/-- PORT STATUS (R181). -/
theorem State.controlWord_portStatus (q : Port) :
    s.controlWord (20 + q.num) = some (portStatusWord (s.port q) (s.isPriority q)) := by
  cases q <;> rfl

/-- RESERVATION ENTRY (R177, R181). -/
theorem State.controlWord_reservationEntry :
    ∀ k ∈ List.range 8, s.controlWord (40 + k) = some (reservationWord s.table.entries[k]?) := by
  have entries : ∀ k ∈ [0, 1, 2, 3, 4, 5, 6, 7],
      s.controlWord (40 + k) = some (reservationWord s.table.entries[k]?) := by
    simp only [List.forall_mem_cons]
    exact ⟨rfl, rfl, rfl, rfl, rfl, rfl, rfl, rfl, fun _ beyond => absurd beyond List.not_mem_nil⟩
  exact entries

/-- The words of one kind, one for each port from an index on (R181). -/
def portRows (first : Nat) (value : Port → Word) : List (Nat × Word) :=
  Port.all.map fun q => (first + q.num, value q)

/-- Every index in use with its value (R181). -/
def State.controlWords (s : State) : List (Nat × Word) :=
  s.configurationWords ++ portRows 15 (fun q => BitVec.ofNat 32 (s.isPriority q).toNat) ++
    portRows 20 (fun q => portStatusWord (s.port q) (s.isPriority q)) ++ s.statusWords ++
    (List.range 8).map (fun k => (40 + k, reservationWord s.table.entries[k]?))

theorem State.controlWord_of_controlWords : ∀ row ∈ s.controlWords, s.controlWord row.1 = some row.2 := by
  simp only [State.controlWords, portRows, List.forall_mem_append, List.forall_mem_map]
  exact ⟨⟨⟨⟨State.controlWord_of_configurationWords, fun q _ => State.controlWord_portClass q⟩,
    fun q _ => State.controlWord_portStatus q⟩, State.controlWord_of_statusWords⟩, State.controlWord_reservationEntry⟩

theorem State.controlWord_of_unused {i : Nat} (unused : i ∈ [7, 19, 33, 34, 35, 36, 37, 38, 39] ∨ 48 ≤ i) :
    s.controlWord i = none := by
  rcases unused with gap | beyond
  · have gaps : ∀ i ∈ [7, 19, 33, 34, 35, 36, 37, 38, 39], s.controlWord i = none := by simp [State.controlWord]
    exact gaps i gap
  · obtain ⟨k, rfl⟩ := Nat.exists_eq_add_of_le' beyond
    rfl

/-! ### The command -/

section
variable (routed : s.Routed p m .ctlRead)
include routed

theorem exec_ctlRead_of_word {v : Word} (word : s.controlWord m.controlIndex = some v) :
    exec (.ctlRead p) s = .next (s.answer p { plainResponse m .ok with data := some v }) := by
  change execCtlRead p s = _
  simp [execCtlRead, routed.eq, word]

theorem exec_ctlRead_of_no_word (unused : s.controlWord m.controlIndex = none) :
    exec (.ctlRead p) s = .next (s.answerStatus p m .badValue) := by
  change execCtlRead p s = _
  simp [execCtlRead, routed.eq, unused]

end

/-- Settles O49: the index is looked up among the control words, and the answer is all that changes; the layouts follow
from the placing of one field over another. -/
theorem ctlReadTaken : Obligations.CtlReadTaken := by
  refine fun s p m routed => ⟨fun v row => ?word, fun unused => ?unused, s.control.straps.toNat_word,
    fun r priority credits => ?portStatus, fun owed => ?refresh, fun queue progress => ?clear, rfl,
    fun e range => toNat_reservationWord range⟩
  case word =>
    have word : s.controlWord m.controlIndex = some v := State.controlWord_of_controlWords _ row
    exact ⟨_, exec_ctlRead_of_word routed word, State.answeredWith_answer rfl p _, State.remarked_answer rfl p _,
      State.changesOnly_answer p _⟩
  case unused =>
    exact ⟨_, exec_ctlRead_of_no_word routed (State.controlWord_of_unused unused),
      State.refusedWith_answerStatus p m .badValue⟩
  case portStatus => rw [toNat_portStatusWord credits, PortState.code_eq]
  case refresh => exact toNat_halves (by omega) (Nat.lt_trans s.refresh.row.isLt (by decide))
  case clear => exact toNat_halves (by omega) (by omega)

end Sys2Proof.Machine
end

section
/-! PROOF. The fields of a request message as numbers (R178), and the kind and guard action codes. -/
namespace Sys2Proof.Machine

theorem toNat_extractLsb'_eq_div_mod {n : Nat} (w : BitVec n) (bit width : Nat) :
    (w.extractLsb' bit width).toNat = w.toNat / 2 ^ bit % 2 ^ width := by
  rw [BitVec.extractLsb'_toNat, Nat.shiftRight_eq_div_pow]

/-- The kind codes of R178. -/
def RequestKind.codes : List (Nat × RequestKind) :=
  [(1, .read), (2, .write), (3, .mergeWrite), (4, .lockedRead), (5, .condWrite), (6, .unlock), (8, .claim), (9, .grant),
    (10, .revoke), (11, .offer), (12, .accept), (13, .withdraw), (14, .release), (15, .pageQuery), (16, .fetchNotice),
    (20, .ctlRead), (21, .ctlWrite), (22, .start)]

/-- The guard action codes of R178. -/
def GuardAction.codes : List (Nat × GuardAction) := [(0, .keep), (1, .set), (2, .clear)]

theorem RequestKind.ofCode_eq_some_iff {code : Nat} {k : RequestKind} :
    RequestKind.ofCode code = some k ↔ (code, k) ∈ RequestKind.codes := by
  constructor
  · intro named
    unfold RequestKind.ofCode at named
    split at named <;> cases named <;> decide
  · have listed : ∀ row ∈ RequestKind.codes, RequestKind.ofCode row.1 = some row.2 := by decide
    exact listed (code, k)

theorem Request.kind_eq_some_iff {m : Request} {k : RequestKind} :
    m.kind = some k ↔ (m.w0.toNat % 32, k) ∈ RequestKind.codes := by
  have code : (m.w0.extractLsb' 0 5).toNat = m.w0.toNat % 32 :=
    (toNat_extractLsb'_eq_div_mod m.w0 0 5).trans (congrArg (· % 32) (Nat.div_one _))
  rw [Request.kind, RequestKind.ofCode_eq_some_iff, code]

theorem Request.guardAction_eq_some_iff {m : Request} {a : GuardAction} :
    m.guardAction = some a ↔ (m.w0.toNat / 2 ^ 5 % 4, a) ∈ GuardAction.codes := by
  have code : (m.w0.extractLsb' 5 2).toNat = m.w0.toNat / 2 ^ 5 % 4 := toNat_extractLsb'_eq_div_mod m.w0 5 2
  rw [← code, Request.guardAction]
  generalize (m.w0.extractLsb' 5 2).toNat = number
  constructor
  · intro named
    split at named <;> cases named <;> decide
  · intro listed
    simp only [GuardAction.codes, List.mem_cons, List.not_mem_nil, or_false, Prod.mk.injEq] at listed
    obtain ⟨rfl, rfl⟩ | ⟨rfl, rfl⟩ | ⟨rfl, rfl⟩ := listed <;> rfl

theorem Port.num_ofNum {n : Nat} (small : n < 4) : (Port.ofNum n).num = n := by
  have all : ∀ n < 4, (Port.ofNum n).num = n := by decide
  exact all n small

theorem Request.num_target (m : Request) : m.target.num = m.w0.toNat / 2 ^ 14 % 4 := by
  rw [Request.target, toNat_extractLsb'_eq_div_mod]
  exact Port.num_ofNum (Nat.mod_lt _ (by decide))

theorem Request.guardMode_eq_on_iff {m : Request} : m.guardMode = .on ↔ m.w0.getLsbD 13 = true := by
  unfold Request.guardMode
  split <;> simp_all

/-- Settles O5: a field is the digits of word 0 from its bit on, and a code names what stands against it in the table. -/
theorem requestLayout : Obligations.RequestLayout := by
  exact fun m => ⟨fun _ => m.kind_eq_some_iff, fun _ => m.guardAction_eq_some_iff, toNat_extractLsb'_eq_div_mod m.w0 7 4,
    rfl, rfl, m.guardMode_eq_on_iff, m.num_target, toNat_extractLsb'_eq_div_mod m.w0 16 8,
    toNat_extractLsb'_eq_div_mod m.w0 24 6, rfl, rfl, rfl⟩

end Sys2Proof.Machine
end

section
/-! PROOF. The words of the response channel (R179, R180): a word laid out of fields, each above the one before it, reads
as each of them at its bits. -/
namespace Sys2Proof.Machine

/-! ### A word laid out of fields -/

/-- A number at the `width` bits of a word from `bit` on. -/
structure WordField where
  bit : Nat
  width : Nat
  value : Nat

/-- The word that carries a list of fields. -/
def layOut : List WordField → Word
  | [] => 0#32
  | f :: fields => field f.value f.bit ||| layOut fields

/-- Every field fits its width and begins where the one before it ends, or above, the first at `low` or above; all lie in
the 32 bits of a word. -/
def Placed (low : Nat) : List WordField → Prop
  | [] => low ≤ 32
  | f :: fields => low ≤ f.bit ∧ f.value < 2 ^ f.width ∧ Placed (f.bit + f.width) fields

/-- The number a reader of the word finds at the bits of the field. -/
def WordField.ReadFrom (w : Word) (f : WordField) : Prop := w.toNat / 2 ^ f.bit % 2 ^ f.width = f.value

theorem getLsbD_field (value bit i : Nat) :
    (field value bit).getLsbD i = (decide (i < 32) && (decide (bit ≤ i) && value.testBit (i - bit))) := by
  rw [field, BitVec.getLsbD_shiftLeft, BitVec.getLsbD_ofNat]
  by_cases inWord : i < 32
  · have small : i - bit < 32 := Nat.lt_of_le_of_lt (Nat.sub_le i bit) inWord
    by_cases reached : bit ≤ i
    · simp [inWord, small, reached, Nat.not_lt.mpr reached]
    · simp [reached, Nat.not_le.mp reached]
  · simp [inWord]

theorem testBit_eq_false_of_lt_two_pow {value width k : Nat} (fits : value < 2 ^ width) (above : width ≤ k) :
    value.testBit k = false :=
  Nat.testBit_lt_two_pow (Nat.lt_of_lt_of_le fits (Nat.pow_le_pow_right (by decide) above))

theorem Placed.low_le : ∀ {low : Nat} {fields : List WordField}, Placed low fields → low ≤ 32
  | _, [], ends => ends
  | _, _ :: _, ⟨lowLe, _, above⟩ => Nat.le_trans (Nat.le_trans lowLe (Nat.le_add_right _ _)) above.low_le

theorem Placed.low_le_bit {f : WordField} {low : Nat} {fields : List WordField} (placed : Placed low fields)
    (mem : f ∈ fields) : low ≤ f.bit := by
  induction fields generalizing low with
  | nil => exact absurd mem List.not_mem_nil
  | cons g fields ih =>
    obtain ⟨lowLe, -, above⟩ := placed
    rcases List.mem_cons.mp mem with rfl | mem
    · exact lowLe
    · have := ih above mem
      omega

theorem Placed.getLsbD_below {low i : Nat} {fields : List WordField} (placed : Placed low fields) (below : i < low) :
    (layOut fields).getLsbD i = false := by
  induction fields generalizing low with
  | nil => exact BitVec.getLsbD_zero
  | cons f fields ih =>
    obtain ⟨lowLe, -, above⟩ := placed
    have notReached : ¬ f.bit ≤ i := by omega
    simp [layOut, getLsbD_field, notReached, ih above (by omega)]

/-- Bit by bit, a word laid out of fields holds each field's number. -/
theorem Placed.getLsbD_of_mem {f : WordField} {low k : Nat} {fields : List WordField} (placed : Placed low fields)
    (mem : f ∈ fields) (inField : k < f.width) : (layOut fields).getLsbD (f.bit + k) = f.value.testBit k := by
  induction fields generalizing low with
  | nil => exact absurd mem List.not_mem_nil
  | cons g fields ih =>
    obtain ⟨-, fits, above⟩ := placed
    rcases List.mem_cons.mp mem with rfl | mem
    · have inWord : f.bit + k < 32 := Nat.lt_of_lt_of_le (by omega) above.low_le
      rw [layOut, BitVec.getLsbD_or, above.getLsbD_below (by omega), getLsbD_field]
      simp [inWord]
    · have ended := above.low_le_bit mem
      have past : g.width ≤ f.bit + k - g.bit := by omega
      rw [layOut, BitVec.getLsbD_or, ih above mem, getLsbD_field, testBit_eq_false_of_lt_two_pow fits past]
      simp

theorem Placed.value_lt {f : WordField} {low : Nat} {fields : List WordField} (placed : Placed low fields)
    (mem : f ∈ fields) : f.value < 2 ^ f.width := by
  induction fields generalizing low with
  | nil => exact absurd mem List.not_mem_nil
  | cons g fields ih =>
    obtain ⟨-, fits, above⟩ := placed
    rcases List.mem_cons.mp mem with rfl | mem
    · exact fits
    · exact ih above mem

theorem Placed.readFrom {low : Nat} {fields : List WordField} (placed : Placed low fields) :
    fields.Forall (WordField.ReadFrom (layOut fields)) := by
  refine List.forall_iff_forall_mem.mpr fun f mem => Nat.eq_of_testBit_eq fun k => ?_
  rw [Nat.testBit_mod_two_pow, Nat.testBit_div_two_pow, Nat.add_comm k, BitVec.testBit_toNat]
  by_cases inField : k < f.width
  · simp [inField, placed.getLsbD_of_mem mem inField]
  · simp [inField, testBit_eq_false_of_lt_two_pow (placed.value_lt mem) (Nat.not_lt.mp inField)]

/-! ### A field read as the statements read it -/

section
variable {w : Word} {bit width value : Nat}

theorem WordField.ReadFrom.toNat_extractLsb' (read : WordField.ReadFrom w ⟨bit, width, value⟩) :
    (w.extractLsb' bit width).toNat = value :=
  (toNat_extractLsb'_eq_div_mod w bit width).trans read

theorem WordField.ReadFrom.extractLsb'_eq {v : BitVec width} (read : WordField.ReadFrom w ⟨bit, width, v.toNat⟩) :
    w.extractLsb' bit width = v :=
  BitVec.eq_of_toNat_eq read.toNat_extractLsb'

theorem WordField.ReadFrom.getLsbD_eq {b : Bool} (read : WordField.ReadFrom w ⟨bit, 1, b.toNat⟩) : w.getLsbD bit = b := by
  have digit : w.toNat / 2 ^ bit % 2 = b.toNat := read
  rw [← BitVec.testBit_toNat, Nat.testBit_eq_decide_div_mod_eq, digit]
  cases b <;> rfl

theorem WordField.ReadFrom.mod_eq (read : WordField.ReadFrom w ⟨0, width, value⟩) : w.toNat % 2 ^ width = value :=
  (congrArg (· % 2 ^ width) (Nat.div_one _)).symm.trans read

/-- A field that reaches the word's last bit needs no cut above it. -/
theorem WordField.ReadFrom.div_eq (read : WordField.ReadFrom w ⟨bit, width, value⟩) (last : bit + width = 32) :
    w.toNat / 2 ^ bit = value := by
  have inField : w.toNat / 2 ^ bit < 2 ^ width :=
    Nat.div_lt_of_lt_mul (by rw [← Nat.pow_add, last]; exact w.isLt)
  exact (Nat.mod_eq_of_lt inField).symm.trans read

end

/-! ### The codes -/

/-- The status codes of R179. -/
def Status.codes : List (Status × Nat) :=
  [(.ok, 0), (.range, 1), (.notRunning, 2), (.badRequest, 3), (.notReady, 4), (.frozen, 5), (.badValue, 6), (.noAccess, 7),
    (.guardOff, 8), (.notOwner, 9), (.guarded, 10), (.dataLost, 11), (.lapsed, 12), (.noRoom, 13), (.taken, 14),
    (.clearing, 15), (.pending, 16), (.noOffer, 17), (.badTarget, 18), (.noNotice, 19)]

/-- The page state codes of R180. -/
def PageState.codes : List (PageState × Nat) := [(.free, 0), (.held, 1), (.offered, 2), (.clearing, 3)]

/-- The notice kind codes of R180. -/
def NoticeKind.codes : List (NoticeKind × Nat) :=
  [(.corrected, 1), (.uncorrectable, 2), (.weakPage, 3), (.refreshOverrun, 4), (.portOverrun, 5), (.offerMade, 6),
    (.offerLapsed, 7), (.pageAccepted, 8), (.ready, 9), (.started, 10)]

/-- The class codes of R180, with the 0 of an absent class. -/
def NoticeClass.codes : List (Option NoticeClass × Nat) :=
  [(none, 0), (some .singleData, 0), (some .singleGuard, 1), (some .singleCheck, 2), (some .double, 3),
    (some .multiple, 4)]

/-- The found-by codes of R180, with the 0 of an absent field. -/
def Finder.codes : List (Option Finder × Nat) :=
  [(none, 0), (some (.port .p0), 0), (some (.port .p1), 1), (some (.port .p2), 2), (some (.port .p3), 3),
    (some .scrub, 4)]

theorem Status.mem_codes (status : Status) : (status, status.code) ∈ Status.codes := by
  cases status <;> decide

theorem PageState.mem_codes (state : PageState) : (state, state.code) ∈ PageState.codes := by
  cases state <;> decide

theorem NoticeKind.mem_codes (kind : NoticeKind) : (kind, kind.code) ∈ NoticeKind.codes := by
  cases kind <;> decide

theorem NoticeClass.mem_codes : ∀ cls : Option NoticeClass, (cls, orZero (cls.map NoticeClass.code)) ∈ NoticeClass.codes
  | none => by decide
  | some cls => by cases cls <;> decide

theorem Finder.mem_codes : ∀ finder : Option Finder, (finder, orZero (finder.map Finder.code)) ∈ Finder.codes
  | none => by decide
  | some (.port p) => by cases p <;> decide
  | some .scrub => by decide

/-- A code listed in a table stays below what every code of the table stays below. -/
theorem code_lt_of_mem {α : Type} {codes : List (α × Nat)} {row : α × Nat} {bound : Nat} (mem : row ∈ codes)
    (small : ∀ code ∈ codes.map Prod.snd, code < bound) : row.2 < bound :=
  small row.2 (List.mem_map_of_mem mem)

theorem orZero_port_lt (p : Option Port) : orZero (p.map Port.num) < 4 := by
  rcases p with _ | p
  · decide
  · cases p <;> decide

/-! ### The header of a response and the link-up indication (R179) -/

/-- The fields of word 0 of a response; the bits above the image flag are 0. -/
def Response.headerFields (r : Response) : List WordField :=
  [⟨0, 8, r.tag.toNat⟩, ⟨8, 5, r.status.code⟩, ⟨13, 1, r.corrected.toNat⟩, ⟨14, 1, r.data.isSome.toNat⟩,
    ⟨15, 1, r.guard.isSome.toNat⟩, ⟨16, 1, (r.guard.getD false).toNat⟩, ⟨17, 1, r.image.isSome.toNat⟩, ⟨18, 14, 0⟩]

theorem setWidth_eq_field {n : Nat} (v : BitVec n) : v.setWidth 32 = field v.toNat 0 := by
  rw [field_zero, BitVec.ofNat_toNat]

theorem field_value_zero (bit : Nat) : field 0 bit = 0#32 := BitVec.zero_shiftLeft _

theorem Response.header_eq (r : Response) : r.header = layOut r.headerFields := by
  simp only [Response.header, Response.headerFields, layOut, flag, setWidth_eq_field, field_value_zero, BitVec.or_zero,
    BitVec.or_assoc]

theorem Response.placed_headerFields (r : Response) : Placed 0 r.headerFields := by
  have status : r.status.code < 32 := code_lt_of_mem r.status.mem_codes (by decide)
  simp [Response.headerFields, Placed, Bool.toNat_le, r.tag.isLt, status]

theorem Response.readFrom_header (r : Response) : r.headerFields.Forall (WordField.ReadFrom r.header) :=
  r.header_eq ▸ r.placed_headerFields.readFrom

theorem linkUpMessage_eq (p : Port) : linkUpMessage p =
    { w0 := BitVec.ofNat 32 (2 ^ 18 + p.num * 2 ^ 20 + 8 * 2 ^ 24), w1 := 0#32, w2 := 0#32, w3 := 0#32 } := by
  cases p <;> rfl

/-! ### The page entry image (R180) -/

/-- The fields of word 2 of a page entry image; the bits above the weak flag are 0. -/
def PageImage.word2Fields (i : PageImage) : List WordField :=
  [⟨0, 10, i.page⟩, ⟨10, 2, i.state.code⟩, ⟨12, 1, i.owner.isSome.toNat⟩, ⟨13, 2, orZero (i.owner.map Port.num)⟩,
    ⟨15, 1, i.guardMode.isOn.toNat⟩, ⟨16, 1, i.readSet.p0.toNat⟩, ⟨17, 1, i.readSet.p1.toNat⟩,
    ⟨18, 1, i.readSet.p2.toNat⟩, ⟨19, 1, i.readSet.p3.toNat⟩, ⟨20, 1, i.writeSet.p0.toNat⟩,
    ⟨21, 1, i.writeSet.p1.toNat⟩, ⟨22, 1, i.writeSet.p2.toNat⟩, ⟨23, 1, i.writeSet.p3.toNat⟩,
    ⟨24, 1, i.offerTarget.isSome.toNat⟩, ⟨25, 2, orZero (i.offerTarget.map Port.num)⟩, ⟨27, 1, i.weak.toNat⟩, ⟨28, 4, 0⟩]

section
variable {i : PageImage} (page : i.page < 1024)
include page

theorem PageImage.word2_eq : i.word2 = layOut i.word2Fields := by
  simp only [PageImage.word2, PageImage.word2Fields, layOut, setBits, flag, field_value_zero, BitVec.or_zero,
    BitVec.or_assoc, Nat.mod_eq_of_lt page]

theorem PageImage.placed_word2Fields : Placed 0 i.word2Fields := by
  have state : i.state.code < 4 := code_lt_of_mem i.state.mem_codes (by decide)
  simp [PageImage.word2Fields, Placed, Bool.toNat_le, page, state, orZero_port_lt]

theorem PageImage.readFrom_word2 : i.word2Fields.Forall (WordField.ReadFrom i.word2) :=
  PageImage.word2_eq page ▸ (PageImage.placed_word2Fields page).readFrom

end

theorem PageImage.toNat_word3 {i : PageImage} (count : i.corrected ≤ 255) : i.word3.toNat = i.corrected := by
  rw [PageImage.word3, Nat.mod_eq_of_lt (by omega), toNat_field_zero (by omega)]

/-! ### The notice record image (R180) -/

/-- The low bits of word 2 of a notice record image: the word address, the other port where there is no address, and 0
where there is neither. -/
def NoticeImage.place (i : NoticeImage) : Nat := i.addr.getD (orZero (i.other.map Port.num))

/-- The fields of word 2 of a notice record image. -/
def NoticeImage.word2Fields (i : NoticeImage) : List WordField := [⟨0, 22, i.place⟩, ⟨22, 10, i.page.getD 0⟩]

/-- The fields of word 3 of a notice record image. -/
def NoticeImage.word3Fields (i : NoticeImage) : List WordField :=
  [⟨0, 16, i.sequence.toNat⟩, ⟨16, 4, i.kind.code⟩, ⟨20, 6, (i.syndrome.getD 0#6).toNat⟩,
    ⟨26, 3, orZero (i.cls.map NoticeClass.code)⟩, ⟨29, 3, orZero (i.foundBy.map Finder.code)⟩]

section
variable {i : NoticeImage} (addr : ∀ a, i.addr = some a → a < 2 ^ 22 ∧ i.other = none)
  (page : ∀ n, i.page = some n → n < 1024)

include page in
theorem NoticeImage.page_lt : i.page.getD 0 < 2 ^ 10 := by
  cases present : i.page with
  | none => decide
  | some n => exact page n present

include addr

theorem NoticeImage.place_lt : i.place < 2 ^ 22 := by
  unfold NoticeImage.place
  cases present : i.addr with
  | none => exact Nat.lt_trans (orZero_port_lt i.other) (by decide)
  | some a => exact (addr a present).1

/-- A record carries an address or another port, not both, so the two fields that begin at bit 0 are one number. -/
theorem NoticeImage.field_addr_or_field_other :
    field (orZero i.addr % 4194304) 0 ||| field (orZero (i.other.map Port.num)) 0 = field i.place 0 := by
  unfold NoticeImage.place
  cases present : i.addr with
  | none => exact (congrArg (· ||| _) (field_value_zero 0)).trans BitVec.zero_or
  | some a =>
    obtain ⟨inWord, absent⟩ := addr a present
    rw [absent, orZero, Option.getD_some, (Nat.mod_eq_of_lt inWord : a % 4194304 = a)]
    exact (congrArg (_ ||| ·) (field_value_zero 0)).trans BitVec.or_zero

theorem NoticeImage.place_of_other {p : Port} (other : i.other = some p) : i.place = p.num := by
  cases present : i.addr with
  | none => rw [NoticeImage.place, present, other]; rfl
  | some a => exact absurd ((addr a present).2.symm.trans other) (Option.some_ne_none p).symm

include page

theorem NoticeImage.word2_eq : i.word2 = layOut i.word2Fields := by
  have number : i.page.getD 0 % 1024 = i.page.getD 0 := Nat.mod_eq_of_lt (NoticeImage.page_lt page)
  rw [NoticeImage.word2, NoticeImage.field_addr_or_field_other addr, orZero, number]
  simp only [NoticeImage.word2Fields, layOut, BitVec.or_zero]

theorem NoticeImage.readFrom_word2 : i.word2Fields.Forall (WordField.ReadFrom i.word2) := by
  have placed : Placed 0 i.word2Fields :=
    ⟨Nat.zero_le _, NoticeImage.place_lt addr, Nat.le_refl _, NoticeImage.page_lt page, Nat.le_refl _⟩
  exact NoticeImage.word2_eq addr page ▸ placed.readFrom

end

theorem orZero_syndrome (syndrome : Option (BitVec 6)) :
    orZero (syndrome.map BitVec.toNat) = (syndrome.getD 0#6).toNat := by
  cases syndrome <;> rfl

theorem NoticeImage.word3_eq (i : NoticeImage) : i.word3 = layOut i.word3Fields := by
  simp only [NoticeImage.word3, NoticeImage.word3Fields, layOut, setWidth_eq_field, orZero_syndrome, BitVec.or_zero,
    BitVec.or_assoc]

theorem NoticeImage.placed_word3Fields (i : NoticeImage) : Placed 0 i.word3Fields := by
  have kind : i.kind.code < 16 := code_lt_of_mem i.kind.mem_codes (by decide)
  have cls : orZero (i.cls.map NoticeClass.code) < 8 := code_lt_of_mem (NoticeClass.mem_codes i.cls) (by decide)
  have foundBy : orZero (i.foundBy.map Finder.code) < 8 := code_lt_of_mem (Finder.mem_codes i.foundBy) (by decide)
  simp [NoticeImage.word3Fields, Placed, i.sequence.isLt, kind, (i.syndrome.getD 0#6).isLt, cls, foundBy]

theorem NoticeImage.readFrom_word3 (i : NoticeImage) : i.word3Fields.Forall (WordField.ReadFrom i.word3) :=
  i.word3_eq ▸ i.placed_word3Fields.readFrom

/-! ### The four kinds of words -/

/-- Settles O6: each word is laid out of its fields, and a field is read back at its bits. -/
theorem responseLayout : Obligations.ResponseLayout := by
  refine ⟨fun r => ?response, linkUpMessage_eq, fun i page count => ?pageImage, fun i addr page => ?noticeImage⟩
  case response =>
    obtain ⟨tag, status, corrected, data, guard, guardValue, image, unnamed⟩ := r.readFrom_header
    have code : (r.message.w0.extractLsb' 8 5).toNat = r.status.code := status.toNat_extractLsb'
    rw [code]
    refine ⟨tag.extractLsb'_eq, r.status.mem_codes, corrected.getLsbD_eq, data.getLsbD_eq, guard.getLsbD_eq,
      guardValue.getLsbD_eq, image.getLsbD_eq, WordField.ReadFrom.extractLsb'_eq (v := 0#14) unnamed, rfl,
      fun absent => ?_, fun i present => ?_⟩
    · simp [Response.message, absent]
    · simp [Response.message, present]
  case pageImage =>
    obtain ⟨number, state, owned, owner, guardMode, read0, read1, read2, read3, write0, write1, write2, write3, offered,
      target, weak, unnamed⟩ := PageImage.readFrom_word2 page
    have code : i.word2.toNat / 2 ^ 10 % 4 = i.state.code := state
    have ownerCode : i.word2.toNat / 2 ^ 13 % 4 = orZero (i.owner.map Port.num) := owner
    have targetCode : i.word2.toNat / 2 ^ 25 % 4 = orZero (i.offerTarget.map Port.num) := target
    have sets : ∀ p : Port, i.word2.getLsbD (16 + p.num) = i.readSet.get p ∧
        i.word2.getLsbD (20 + p.num) = i.writeSet.get p
      | .p0 => ⟨read0.getLsbD_eq, write0.getLsbD_eq⟩
      | .p1 => ⟨read1.getLsbD_eq, write1.getLsbD_eq⟩
      | .p2 => ⟨read2.getLsbD_eq, write2.getLsbD_eq⟩
      | .p3 => ⟨read3.getLsbD_eq, write3.getLsbD_eq⟩
    rw [code, ownerCode, targetCode, guardMode.getLsbD_eq]
    exact ⟨number.mod_eq, i.state.mem_codes, owned.getLsbD_eq,
      fun p present => by rw [present]; rfl, fun absent => by rw [absent]; rfl, i.guardMode.isOn_iff, sets,
      offered.getLsbD_eq, fun p present => by rw [present]; rfl, fun absent => by rw [absent]; rfl, weak.getLsbD_eq,
      unnamed.div_eq rfl, PageImage.toNat_word3 count⟩
  case noticeImage =>
    obtain ⟨place, pageNumber⟩ := NoticeImage.readFrom_word2 addr page
    obtain ⟨sequence, kind, syndrome, cls, foundBy⟩ := i.readFrom_word3
    have low : i.word2.toNat % 2 ^ 22 = i.place := place.mod_eq
    have kindCode : i.word3.toNat / 2 ^ 16 % 16 = i.kind.code := kind
    have clsCode : i.word3.toNat / 2 ^ 26 % 8 = orZero (i.cls.map NoticeClass.code) := cls
    rw [low, kindCode, clsCode, foundBy.div_eq rfl]
    exact ⟨fun a present => by rw [NoticeImage.place, present]; rfl,
      fun p present => NoticeImage.place_of_other addr present,
      fun noAddr noOther => by rw [NoticeImage.place, noAddr, noOther]; rfl,
      pageNumber.div_eq rfl, sequence.extractLsb'_eq, i.kind.mem_codes, syndrome.extractLsb'_eq,
      NoticeClass.mem_codes i.cls, Finder.mem_codes i.foundBy⟩

end Sys2Proof.Machine
end

section
/-! PROOF. One step: the queue's front command is executed with the queue's rest, an empty queue leaves the part as it
stands (log entry 10), and nothing stops the part: a command whose event does not stand changes nothing (log entry 9),
and every other branch of every command ends in a next state. -/
namespace Sys2Proof.Machine

variable {s : State}

/-! ### The queue and the step -/

@[simp] theorem State.withPending_withPending (l l' : List Instr) :
    (s.withPending l).withPending l' = s.withPending l' := rfl

@[simp] theorem State.withPending_self : s.withPending s.pending = s := rfl

theorem step_of_front {c : Instr} {rest : List Instr} (h : s.pending = c :: rest) :
    step s = exec c (s.withPending rest) := by
  simp only [step, h]

theorem step_of_empty (h : s.pending = []) : step s = .next s := by
  simp only [step, h]

/-- A command put in front of the queue is the next step, on the state as it stood. -/
theorem step_withPending_cons (c : Instr) : step (s.withPending (c :: s.pending)) = exec c s := by
  rw [step_of_front (State.withPending_pending s (c :: s.pending)), State.withPending_withPending,
    State.withPending_self]

/-! ### Every command answers a next state -/

/-- The answer is a next state: no fault and no refusal. -/
def AnswersNext (answer : Host.Outcome State Fault Refusal) : Prop := ∃ t, answer = .next t

theorem answersNext_next (t : State) : AnswersNext (.next t) := ⟨t, rfl⟩

/-- A command that takes one of two steps. -/
theorem answersNext_ite {c : Prop} [Decidable c] {t u : State} : AnswersNext (if c then .next t else .next u) := by
  split
  · exact answersNext_next t
  · exact answersNext_next u

/-- A command that serves a port's request, and without one changes nothing (log entry 9). -/
theorem answersNext_serving {found : Option Request} {f : Request → Host.Outcome State Fault Refusal}
    (served : ∀ m, AnswersNext (f m)) : AnswersNext (match found with | none => .next s | some m => f m) := by
  cases found with
  | none => exact answersNext_next s
  | some m => exact served m

/-- A completion, and without an operation to complete nothing (log entry 9). -/
theorem answersNext_completion {found : Option Operation} {f : Operation → State} :
    AnswersNext (match found with | none => .next s | some o => .next (f o)) := by
  cases found with
  | none => exact answersNext_next s
  | some o => exact answersNext_next (f o)

/-- A request that is judged: refused with a status, or taken (R60, R61). -/
theorem answersNext_judged {verdict : Option Status} {t : State} {refused : Status → State} :
    AnswersNext (match verdict with | some st => .next (refused st) | none => .next t) := by
  cases verdict with
  | none => exact answersNext_next t
  | some st => exact answersNext_next (refused st)

/-! #### The commands of a shape of their own -/

section
variable (s : State) (p : Port)

/-- READING ends only with an operation in flight that reads a word (R114). -/
theorem execReadingEnds_answersNext (flips : StoredWord) : AnswersNext (execReadingEnds flips s) := by
  unfold execReadingEnds
  split
  next => exact answersNext_next s
  next o _ =>
    split
    next => exact answersNext_next s
    next a _ => exact answersNext_next (s.endReading o a flips)

/-- An offer lapses only for a page that has an offer entry (R76). -/
theorem execOfferLifetimeRunsOut_answersNext (page : Nat) : AnswersNext (execOfferLifetimeRunsOut page s) := by
  unfold execOfferLifetimeRunsOut
  cases s.offerOf page with
  | none => exact answersNext_next s
  | some o => exact answersNext_next _

/-- The log takes a request of the block, or there is none that it may take now (R155). -/
theorem execNoticeRecordCreate_answersNext (asker : Asker) : AnswersNext (execNoticeRecordCreate asker s) := by
  unfold execNoticeRecordCreate
  cases s.log.takeable.find? (NoticeRequest.from asker) with
  | none => exact answersNext_next s
  | some r => exact answersNext_next _

/-- An ACCEPT is answered with an offer to the port and without one (R74). -/
theorem execAccept_answersNext : AnswersNext (execAccept p s) :=
  answersNext_serving fun m => by
    cases s.offerTo m.page p with
    | none => exact answersNext_next (s.answerStatus p m .noOffer)
    | some o => exact answersNext_next ((s.takeOver m.page p o).answerStatus p m .ok)

/-- A FETCH-NOTICE is answered with a record held for the port and without one (R160). -/
theorem execFetchNotice_answersNext : AnswersNext (execFetchNotice p s) :=
  answersNext_serving fun m => by
    cases fetchFor p s.log.records with
    | none => exact answersNext_next (s.answerStatus p m .noNotice)
    | some fetched => exact answersNext_next _

/-- A CTL-READ is answered at an index that has a word and at an unused one (R174). -/
theorem execCtlRead_answersNext : AnswersNext (execCtlRead p s) :=
  answersNext_serving fun m => by
    cases s.controlWord m.controlIndex with
    | none => exact answersNext_next (s.answerStatus p m .badValue)
    | some v => exact answersNext_next _

/-- A CTL-WRITE is answered for the LOST COUNT word, for a configuration item and at any other index (R173). -/
theorem execCtlWrite_answersNext : AnswersNext (execCtlWrite p s) :=
  answersNext_serving fun m => by
    split
    · exact answersNext_next (s.writeLostCount p m)
    · exact answersNext_ite

/-- START is answered in each device state (R168). -/
theorem execStart_answersNext : AnswersNext (execStart p s) :=
  answersNext_serving fun m => by
    cases s.control.device with
    | init => exact answersNext_next (s.answerStatus p m .notReady)
    | setup => exact answersNext_next ((s.enterRun p).answerStatus p m .ok)
    | run => exact answersNext_next (s.answerStatus p m .ok)

end

/-- Nothing stops the part: every command answers a next state in every state. -/
theorem exec_answersNext (s : State) (i : Instr) : AnswersNext (exec i s) := by
  cases i with
  | nrstFalls => exact answersNext_next s.coldReset
  | nrstRises msize pen => exact answersNext_ite
  | prstFalls p => exact answersNext_ite
  | prstRises p => exact answersNext_ite
  | linkUpDelivered p => exact answersNext_ite
  | requestArrives p w0 w1 w2 => exact answersNext_ite
  | responseDelivered p => exact answersNext_ite
  | read p => exact answersNext_serving fun _ => answersNext_next _
  | write p => exact answersNext_serving fun _ => answersNext_next _
  | mergeWrite p => exact answersNext_serving fun _ => answersNext_next _
  | lockedRead p => exact answersNext_serving fun _ => answersNext_next _
  | condWrite p => exact answersNext_serving fun _ => answersNext_next _
  | refreshGrant => exact answersNext_ite
  | clearGrant => exact answersNext_ite
  | scrubGrant => exact answersNext_ite
  | readingEnds flips => exact execReadingEnds_answersNext s flips
  | readOpCompletes => exact answersNext_completion
  | storeCompletes => exact answersNext_completion
  | checkedStoreCompletes => exact answersNext_completion
  | mergeCompletes => exact answersNext_completion
  | refreshCompletes => exact answersNext_completion
  | clearCompletes => exact answersNext_completion
  | scrubCompletes => exact answersNext_completion
  | refreshIntervalRunsOut => exact answersNext_ite
  | scrubIntervalRunsOut => exact answersNext_ite
  | reservationLifetimeRunsOut addr => exact answersNext_ite
  | offerLifetimeRunsOut page => exact execOfferLifetimeRunsOut_answersNext s page
  | unlock p => exact answersNext_serving fun _ => answersNext_ite
  | claim p => exact answersNext_serving fun _ => answersNext_judged
  | grant p => exact answersNext_serving fun _ => answersNext_judged
  | revoke p => exact answersNext_serving fun _ => answersNext_judged
  | offer p => exact answersNext_serving fun _ => answersNext_judged
  | accept p => exact execAccept_answersNext s p
  | withdraw p => exact answersNext_serving fun _ => answersNext_judged
  | release p => exact answersNext_serving fun _ => answersNext_judged
  | pageQuery p => exact answersNext_serving fun _ => answersNext_next _
  | fetchNotice p => exact execFetchNotice_answersNext s p
  | ctlRead p => exact execCtlRead_answersNext s p
  | ctlWrite p => exact execCtlWrite_answersNext s p
  | lostCount p => exact answersNext_serving fun _ => answersNext_ite
  | start p => exact execStart_answersNext s p
  | noticeRecordCreate asker => exact execNoticeRecordCreate_answersNext s asker

/-- Settles O53: a step is the front command executed with the queue's rest, and every branch of every command ends in
a next state. -/
theorem stepRunsTheFrontCommand : Obligations.StepRunsTheFrontCommand :=
  ⟨fun _ c => step_withPending_cons c, fun _ _ _ front => step_of_front front, fun _ empty => step_of_empty empty,
    exec_answersNext⟩

end Sys2Proof.Machine
end

section
/-! PROOF. The port's three checks of a request (R25 to R27, R36): which requests fail the first, and what the other two
ask of each kind. -/
namespace Sys2Proof.Machine

variable {s : State} {m : Request} {k : RequestKind}

/-! ### Kind and fields (R25) -/

theorem guardAction_ne_keep_iff {named : Option GuardAction} (present : named ≠ none) :
    named ≠ some .keep ↔ named = some .set ∨ named = some .clear := by
  rcases named with _ | action
  · exact absurd rfl present
  · cases action <;> decide

/-- Of a kind that is named, the bad requests are those without a guard action it uses, the reads that would set or clear
the guard, and the merges of no byte. -/
theorem Request.bad_iff (named : m.kind = some k) :
    m.Bad ↔ (k.usesGuardAction = true ∧ m.guardAction = none) ∨
      ((k = .read ∨ k = .lockedRead) ∧ (m.guardAction = some .set ∨ m.guardAction = some .clear)) ∨
      (k = .mergeWrite ∧ m.byteMask = 0#4) := by
  simp [Request.Bad, named]

theorem checkFields_of_bad (bad : m.Bad) : checkFields m = none := by
  rcases bad with unnamed | ⟨k, named, noAction | ⟨kind, acts⟩ | ⟨kind, noByte⟩⟩
  · simp [checkFields, unnamed]
  · simp [checkFields, named, noAction]
  · rcases kind with rfl | rfl <;> rcases acts with acts | acts <;> simp [checkFields, named, acts]
  · subst kind
    simp [checkFields, named, noByte, RequestKind.usesGuardAction]

theorem checkFields_of_not_bad (named : m.kind = some k) (good : ¬ m.Bad) : checkFields m = some k := by
  rw [Request.bad_iff named, not_or, not_or] at good
  obtain ⟨action, acting, merging⟩ := good
  have noAction : ¬ (k.usesGuardAction && m.guardAction.isNone) = true := by simpa using action
  have keeps : ¬ ((k == .read || k == .lockedRead) && decide (m.guardAction ≠ some .keep)) = true := by
    intro notKeep
    obtain ⟨reads, other⟩ : (k = .read ∨ k = .lockedRead) ∧ m.guardAction ≠ some .keep := by simpa using notKeep
    have uses : k.usesGuardAction = true := by rcases reads with rfl | rfl <;> rfl
    exact acting ⟨reads, (guardAction_ne_keep_iff fun absent => action ⟨uses, absent⟩).mp other⟩
  have merges : ¬ (k == .mergeWrite && decide (m.byteMask = 0#4)) = true := by simpa using merging
  simp only [checkFields, named, if_neg noAction, if_neg keeps, if_neg merges]

theorem State.portCheck_of_bad (bad : m.Bad) : s.portCheck m = some .badRequest := by
  simp [State.portCheck, Machine.portCheck, checkFields_of_bad bad]

/-- A request that is not bad is judged by the device state and the range (R26, R27). -/
theorem State.portCheck_of_not_bad (named : m.kind = some k) (good : ¬ m.Bad) :
    s.portCheck m = checkServed s.control.device s.size s.pageCount m k := by
  simp [State.portCheck, Machine.portCheck, checkFields_of_not_bad named good]

/-! ### Device state and range (R26, R27) -/

/-- The kinds that RUN alone serves: the memory kinds, UNLOCK and the page kinds (R26). -/
def RequestKind.needsRun (k : RequestKind) : Bool := k.isMemory || k == .unlock || k.isPage

theorem RequestKind.needsRun_iff : k.needsRun = true ↔ k.isMemory = true ∨ k = .unlock ∨ k.isPage = true := by
  simp [RequestKind.needsRun, or_assoc]

section
variable {device : DeviceState} {size pages : Nat}

theorem checkServed_outside_run (outside : device ≠ .run) (needs : k.needsRun = true) :
    checkServed device size pages m k = some .notRunning :=
  if_pos (by simpa [RequestKind.needsRun] using And.intro needs outside)

theorem checkServed_of_address (kind : k.isMemory = true ∨ k = .unlock) :
    checkServed .run size pages m k = if size ≤ m.addr then some .range else none := by
  have noPage : k.isPage = false := by
    rcases kind with memory | rfl
    · cases k <;> first | rfl | cases memory
    · rfl
  have address : (k.isMemory || k == .unlock) = true := by simpa using kind
  simp [checkServed, noPage, address]

theorem checkServed_of_page (kind : k.isPage = true) :
    checkServed .run size pages m k = if pages ≤ m.page then some .range else none := by
  have noAddress : (k.isMemory || k == .unlock) = false := by cases k <;> first | rfl | cases kind
  simp [checkServed, noAddress, kind]

/-- What RUN is not needed for passes in every device state (R26). -/
theorem checkServed_of_other (free : k.needsRun = false) : checkServed device size pages m k = none := by
  simp only [RequestKind.needsRun, Bool.or_eq_false_iff] at free
  obtain ⟨⟨memory, unlock⟩, page⟩ := free
  simp [checkServed, memory, unlock, page]

end

/-- Settles O7: the fields first, then the device state, then the range. -/
theorem portChecksInOrder : Obligations.PortChecksInOrder := by
  refine fun s m => ⟨State.portCheck_of_bad, fun k named good => ?_⟩
  rw [State.portCheck_of_not_bad named good]
  refine ⟨fun outside needs => checkServed_outside_run outside (RequestKind.needsRun_iff.mpr needs),
    fun run kind => ?address, fun run kind => ?page, fun memory unlock page => checkServed_of_other ?other⟩
  case address =>
    rw [run]
    exact checkServed_of_address kind
  case page =>
    rw [run]
    exact checkServed_of_page kind
  case other => simp [RequestKind.needsRun, memory, unlock, page]

end Sys2Proof.Machine
end

section
/-! PROOF. The channels of a port: what a port takes next when it is answered (R24, R30), what becomes of a request that
arrives (R16, R21 to R23) and of a message that is delivered (R20, R31). -/
namespace Sys2Proof.Machine

variable {s : State} {p : Port} {m : Request} {r : PortRecord}

/-! ### A port takes its next request (R24, R30) -/

section
variable {check : Request → Option Status}

/-- A port without a current request takes one from its queue. -/
theorem PortRecord.becomeCurrent_of_idle (idle : r.current = none) :
    r.becomeCurrent check =
      { r with
        current := (takeNext check r.responses r.queue).1, queue := (takeNext check r.responses r.queue).2.1,
        responses := (takeNext check r.responses r.queue).2.2 } := by
  simp [PortRecord.becomeCurrent, idle]

theorem PortRecord.becomeCurrent_of_busy {c : CurrentRequest} (busy : r.current = some c) :
    r.becomeCurrent check = r := by
  simp [PortRecord.becomeCurrent, busy]

theorem PortRecord.answered_of_busy {c : CurrentRequest} (busy : r.current = some c) (resp : Response) :
    r.answered resp = { r with current := none, responses := r.responses ++ [resp] } := by
  simp [PortRecord.answered, busy]

/-- A port that is answered puts the response behind those it holds, then takes its next request. -/
theorem PortRecord.answered_becomeCurrent {c : CurrentRequest} (busy : r.current = some c) (resp : Response) :
    (r.answered resp).becomeCurrent check =
      { r with
        current := (takeNext check (r.responses ++ [resp]) r.queue).1,
        queue := (takeNext check (r.responses ++ [resp]) r.queue).2.1,
        responses := (takeNext check (r.responses ++ [resp]) r.queue).2.2 } := by
  rw [PortRecord.answered_of_busy busy]
  exact PortRecord.becomeCurrent_of_idle rfl

end

/-- Settles O8, from what taking the next request does to the queue. -/
theorem answersInOrder : Obligations.AnswersInOrder := by
  intro check r c resp busy
  obtain ⟨refused, failed, responses, taken⟩ := takeNext_spec check r.queue (r.responses ++ [resp])
  rw [PortRecord.answered_becomeCurrent busy]
  exact ⟨refused, failed, by simpa using responses, taken, rfl, rfl, rfl, rfl, rfl⟩

/-! ### A request arrives (R16, R21, R22, R24) -/

theorem State.isActive_iff : s.isActive p = true ↔ (s.port p).state = .active := by
  simp [State.isActive]

theorem State.changesOnly_setPort : s.ChangesOnly (s.setPort p r) [.ports] := by
  intro b hb
  cases b <;> first | rfl | exact absurd (by simp) hb

theorem State.othersStand_setPort : s.OthersStand (s.setPort p r) p := fun _ other => State.port_setPort_of_ne _ _ other

/-- A port's taking of its next request touches the ports and the parking marks. -/
theorem State.changesOnly_serveNext : s.ChangesOnly (s.serveNext p) [.ports, .parking] := by
  intro b hb
  cases b <;> first | rfl | exact absurd (by simp) hb

theorem State.port_serveNext_same : (s.serveNext p).port p = (s.port p).becomeCurrent s.portCheck :=
  State.port_setPort_same _ _ _

theorem State.port_serveNext_of_ne {q : Port} (other : q ≠ p) : (s.serveNext p).port q = s.port q :=
  State.port_setPort_of_ne _ _ other

/-- A port that takes its next request has its own mark evaluated, and no other (R87). -/
theorem State.remarked_serveNext : s.Remarked (s.serveNext p) p := by
  refine ⟨markedRight_iff.mpr ?_, fun q other => PerPort.get_set_of_ne _ _ other⟩
  exact PerPort.get_set_same _ _ _

section
variable (active : (s.port p).state = .active)
include active

theorem exec_requestArrives : exec (.requestArrives p m.w0 m.w1 m.w2) s = .next (s.arrive p m) :=
  if_pos (State.isActive_iff.mpr active)

theorem exec_responseDelivered : exec (.responseDelivered p) s = .next (s.setPort p (s.port p).deliver) :=
  if_pos (State.isActive_iff.mpr active)

end

theorem exec_requestArrives_of_not_active (w0 w1 w2 : Word) (inactive : (s.port p).state ≠ .active) :
    exec (.requestArrives p w0 w1 w2) s = .next s :=
  if_neg (mt State.isActive_iff.mp inactive)

/-- With 8 outstanding the message is an overrun (R22). -/
theorem State.arrive_of_full (full : 8 ≤ (s.port p).outstanding) : s.arrive p m = s.ask [.portOverrun p] :=
  if_neg (Nat.not_lt.mpr full)

/-- Behind a current request it joins the queue (R21). -/
theorem State.arrive_of_busy {c : CurrentRequest} (room : (s.port p).outstanding < 8)
    (busy : (s.port p).current = some c) : s.arrive p m = s.setPort p ((s.port p).accepted m) := by
  rw [State.arrive, if_pos room, busy]

/-- At an idle port it is taken at once (R24). -/
theorem State.arrive_of_idle (room : (s.port p).outstanding < 8) (idle : (s.port p).current = none) :
    s.arrive p m = (s.setPort p ((s.port p).accepted m)).serveNext p := by
  rw [State.arrive, if_pos room, idle]

/-- At an idle port, where nothing is queued, the request is checked and answered, or becomes current (R24, R28). -/
theorem PortRecord.accepted_becomeCurrent (check : Request → Option Status) (idle : r.current = none)
    (empty : r.queue = []) :
    (r.accepted m).becomeCurrent check =
      match check m with
      | some st => { r with responses := r.responses ++ [plainResponse m st], outstanding := r.outstanding + 1 }
      | none => { r with current := some { msg := m, phase := .routed }, outstanding := r.outstanding + 1 } := by
  rw [PortRecord.becomeCurrent_of_idle (r := r.accepted m) idle]
  cases verdict : check m <;> simp [PortRecord.accepted, empty, takeNext, verdict, idle]

/-- Settles O9: behind a current request and at an idle port. -/
theorem requestAccepted : Obligations.RequestAccepted := by
  intro s p m sound active room
  refine ⟨_, exec_requestArrives active, ?_⟩
  cases current : (s.port p).current with
  | some c =>
    rw [State.arrive_of_busy room current]
    exact ⟨State.othersStand_setPort, State.changesOnly_setPort.mono (by simp),
      fun _ _ => ⟨State.port_setPort_same _ _ _, rfl⟩, fun idle => absurd idle (by simp)⟩
  | none =>
    have taken : (s.arrive p m).port p = ((s.port p).accepted m).becomeCurrent s.portCheck := by
      rw [State.arrive_of_idle room current, State.port_serveNext_same, State.port_setPort_same]
      rfl
    rw [PortRecord.accepted_becomeCurrent s.portCheck current (sound.served current)] at taken
    rw [State.arrive_of_idle room current] at taken ⊢
    obtain ⟨marked, others⟩ := State.remarked_serveNext (s := s.setPort p ((s.port p).accepted m)) (p := p)
    refine ⟨fun q other => (State.port_serveNext_of_ne other).trans (State.othersStand_setPort q other),
      (State.changesOnly_setPort.trans State.changesOnly_serveNext).mono (by simp), fun _ busy => absurd busy (by simp),
      fun _ => ⟨⟨marked, others⟩, fun st failed => ?_, fun passed => ?_⟩⟩
    · rw [taken, failed]
    · rw [taken, passed]

/-- Settles O10, by the state of the port. -/
theorem arrivalIgnoredOrOverrun : Obligations.ArrivalIgnoredOrOverrun := by
  refine fun s p w0 w1 w2 => ⟨exec_requestArrives_of_not_active w0 w1 w2, fun active full =>
    ⟨_, exec_requestArrives (m := ⟨w0, w1, w2⟩) active, ?_⟩⟩
  rw [State.arrive_of_full (Nat.le_of_eq full.symm)]
  exact ⟨rfl, State.changesOnly_ask _⟩

/-! ### Deliveries (R20, R31) -/

/-- The head response leaves once the link-up indication has left (R20, R31). -/
theorem PortRecord.deliver_of_cons {resp : Response} {rest : List Response} (linked : r.linkUp = false)
    (head : r.responses = resp :: rest) :
    r.deliver =
      { r with responses := rest, outstanding := r.outstanding - 1, channel := some resp.message } := by
  simp [PortRecord.deliver, linked, head]

theorem PortRecord.deliver_of_linkUp (waiting : r.linkUp = true) : r.deliver = r := by
  simp [PortRecord.deliver, waiting]

theorem PortRecord.deliver_of_nil (nothing : r.responses = []) : r.deliver = r := by
  cases linked : r.linkUp <;> simp [PortRecord.deliver, linked, nothing]

/-- A record put in the place of itself changes nothing. -/
@[simp] theorem State.setPort_self : s.setPort p (s.port p) = s := by
  cases p <;> rfl

theorem exec_linkUpDelivered (active : (s.port p).state = .active) (waiting : (s.port p).linkUp = true) :
    exec (.linkUpDelivered p) s =
      .next (s.setPort p { s.port p with linkUp := false, channel := some (linkUpMessage p) }) :=
  if_pos (by simp [State.isActive_iff, active, waiting])

theorem exec_linkUpDelivered_of_none (gone : (s.port p).linkUp = false) : exec (.linkUpDelivered p) s = .next s :=
  if_neg (by simp [gone])

/-- A delivery that delivers nothing leaves the part as it stands (log entry 9). -/
theorem exec_responseDelivered_of_none (active : (s.port p).state = .active)
    (nothing : (s.port p).deliver = s.port p) : exec (.responseDelivered p) s = .next s := by
  rw [exec_responseDelivered active, nothing, State.setPort_self]

/-- Settles O12: the link-up indication, then the head response, then nothing. -/
theorem messagesDelivered : Obligations.MessagesDelivered := by
  refine fun s p active => ⟨fun waiting => ⟨⟨_, exec_linkUpDelivered active waiting, State.port_setPort_same _ _ _,
      State.othersStand_setPort, State.changesOnly_setPort⟩,
      exec_responseDelivered_of_none active (PortRecord.deliver_of_linkUp waiting)⟩,
    exec_linkUpDelivered_of_none, fun resp rest linked head => ⟨_, exec_responseDelivered active, ?_,
      State.othersStand_setPort, State.changesOnly_setPort⟩,
    fun nothing => exec_responseDelivered_of_none active (PortRecord.deliver_of_nil nothing)⟩
  rw [State.port_setPort_same, PortRecord.deliver_of_cons linked head]

/-! ### An arrival and a delivery in either order (R23) -/

/-- A request that is accepted counts one more, whatever becomes of it at once (R19, R21). -/
@[simp] theorem PortRecord.becomeCurrent_outstanding (check : Request → Option Status) (r : PortRecord) :
    (r.becomeCurrent check).outstanding = r.outstanding := by
  unfold PortRecord.becomeCurrent
  split <;> rfl

theorem State.arrive_outstanding (room : (s.port p).outstanding < 8) :
    ((s.arrive p m).port p).outstanding = (s.port p).outstanding + 1 := by
  cases current : (s.port p).current with
  | some c => simp [State.arrive_of_busy room current, PortRecord.accepted]
  | none => simp [State.arrive_of_idle room current, State.port_serveNext_same, PortRecord.accepted]

/-- An accepted request hands nothing to the notice log. -/
theorem State.arrive_asked (room : (s.port p).outstanding < 8) : (s.arrive p m).log.asked = s.log.asked := by
  cases current : (s.port p).current with
  | some c => simp [State.arrive_of_busy room current]
  | none => simp [State.arrive_of_idle room current]

/-- Taking the next request only adds to the responses that wait. -/
theorem PortRecord.becomeCurrent_responses (check : Request → Option Status) (r : PortRecord) :
    ∃ more, (r.becomeCurrent check).responses = r.responses ++ more := by
  cases current : r.current with
  | some c => exact ⟨[], by simp [PortRecord.becomeCurrent_of_busy current]⟩
  | none =>
    obtain ⟨refused, -, responses, -⟩ := takeNext_spec check r.queue r.responses
    exact ⟨_, by rw [PortRecord.becomeCurrent_of_idle current]; exact responses⟩

@[simp] theorem PortRecord.becomeCurrent_linkUp (check : Request → Option Status) (r : PortRecord) :
    (r.becomeCurrent check).linkUp = r.linkUp := by
  unfold PortRecord.becomeCurrent
  split <;> rfl

/-- What an arrival leaves for a delivery to look at: the port is ACTIVE as before, and the responses that waited lead
those that wait. -/
theorem State.arrive_port (s : State) (p : Port) (m : Request) :
    ((s.arrive p m).port p).state = (s.port p).state ∧ ((s.arrive p m).port p).linkUp = (s.port p).linkUp ∧
      ∃ more, ((s.arrive p m).port p).responses = (s.port p).responses ++ more := by
  rcases Nat.lt_or_ge (s.port p).outstanding 8 with room | full
  · cases current : (s.port p).current with
    | some c =>
      rw [State.arrive_of_busy room current, State.port_setPort_same]
      exact ⟨rfl, rfl, [], (List.append_nil _).symm⟩
    | none =>
      rw [State.arrive_of_idle room current, State.port_serveNext_same, State.port_setPort_same]
      exact ⟨PortRecord.becomeCurrent_state _ _, PortRecord.becomeCurrent_linkUp _ _,
        PortRecord.becomeCurrent_responses _ ((s.port p).accepted m)⟩
  · rw [State.arrive_of_full full]
    exact ⟨rfl, rfl, [], (List.append_nil _).symm⟩

theorem PortRecord.deliver_outstanding (linked : r.linkUp = false) (waiting : r.responses ≠ []) :
    r.deliver.outstanding = r.outstanding - 1 := by
  obtain ⟨resp, rest, head⟩ := List.exists_cons_of_ne_nil waiting
  rw [PortRecord.deliver_of_cons linked head]

/-- A response that waits is an outstanding request (R19). -/
theorem PortRecord.Sound.outstanding_pos (sound : r.Sound) (waiting : r.responses ≠ []) : 1 ≤ r.outstanding := by
  have counted := sound.counted
  have held := List.length_pos_of_ne_nil waiting
  omega

/-- Settles O11: the four steps, and the count after each by whether the arrival was accepted. -/
theorem arrivalAndDelivery : Obligations.ArrivalAndDelivery := by
  intro s p w0 w1 w2 sound active linked waiting
  have positive := sound.outstanding_pos waiting
  have credits := sound.credits
  have lowered := PortRecord.deliver_outstanding linked waiting
  obtain ⟨state, link, more, responses⟩ := s.arrive_port p ⟨w0, w1, w2⟩
  have waiting' : ((s.arrive p ⟨w0, w1, w2⟩).port p).responses ≠ [] := by simp [responses, waiting]
  have lowered' := PortRecord.deliver_outstanding (link.trans linked) waiting'
  have delivered : (s.setPort p (s.port p).deliver).port p = (s.port p).deliver := State.port_setPort_same _ _ _
  have activeStill : ((s.setPort p (s.port p).deliver).port p).state = .active := by
    rw [delivered, PortRecord.deliver_state, active]
  have room : ((s.setPort p (s.port p).deliver).port p).outstanding < 8 := by
    rw [delivered]
    omega
  refine ⟨_, _, _, _, exec_responseDelivered active, exec_requestArrives (m := ⟨w0, w1, w2⟩) activeStill,
    exec_requestArrives (m := ⟨w0, w1, w2⟩) active, exec_responseDelivered (state.trans active), fun full => ?full,
    fun below => ?below⟩
  case full =>
    have overrun := State.arrive_of_full (m := ⟨w0, w1, w2⟩) (Nat.le_of_eq full.symm)
    simp only [State.port_setPort_same, State.arrive_outstanding room, State.arrive_asked room, lowered', delivered,
      lowered]
    rw [overrun]
    exact ⟨by omega, by omega, rfl, rfl, full, congrArg (· - 1) full⟩
  case below =>
    simp only [State.port_setPort_same, State.arrive_outstanding room, State.arrive_outstanding below,
      State.arrive_asked below, lowered', delivered, lowered]
    exact ⟨by omega, by omega, trivial⟩

end Sys2Proof.Machine
end

section
/-! PROOF. The changes of NRST and PRST (R16 to R18, R32 to R35, R56, R78, R102, R163): the values cold reset leaves, what
its release builds, and what a port reset takes from each block. -/
namespace Sys2Proof.Machine

variable {s t : State} {p : Port} {a n : Nat}

/-! ### Cold reset (R15, R17, R128) -/

/-- The part while NRST is low: reset values, but for the PRST levels, the array and the model's own counter and queue. -/
def State.cold (prst : PortSet) (array : Memory) (freeDraws : Nat) (pending : List Instr) : State :=
  { State.reset with
    pins := { nrst := false, prst := prst }, array := array, freeDraws := freeDraws, pending := pending }

theorem State.coldReset_eq (s : State) :
    s.coldReset = .cold s.pins.prst s.abandonedArray s.drawsAfterAbandon s.pending := rfl

/-- While NRST is low the part stands as cold reset leaves it. -/
theorem State.ColdResetSound.eq_cold (h : s.ColdResetSound) (low : s.pins.nrst = false) :
    s = .cold s.pins.prst s.array s.freeDraws s.pending := h low

/-- Nothing is left half written when no operation is in WRITING (R128). -/
theorem State.abandonedArray_of_not_writing (notWriting : ∀ o, s.sequencer = some o → o.phase ≠ .writing) :
    s.abandonedArray = s.array := by
  have none_written : s.halfWritten = none := by
    cases flight : s.sequencer with
    | none => simp [State.halfWritten, flight]
    | some o =>
      have := notWriting o flight
      cases phase : o.phase <;> simp_all [State.halfWritten, Operation.wordBeingWritten]
  simp [State.abandonedArray, none_written]

/-- The word half written is the one the operation in flight names. -/
theorem State.halfWritten_eq_target {o : Operation} {b : Nat} (flight : s.sequencer = some o) (target : o.target = .word a)
    (half : s.halfWritten = some b) : b = a := by
  cases phase : o.phase <;> simp_all [State.halfWritten, Operation.wordBeingWritten]

/-- An abandoned write leaves every other word (R15, R128). -/
theorem State.abandonedArray_read {o : Operation} (flight : s.sequencer = some o) (target : o.target = .word a)
    (sound : s.ArraySound) {b : Nat} (other : b ≠ a) : s.abandonedArray.read b = s.array.read b := by
  unfold State.abandonedArray
  split
  next => rfl
  next c half =>
    rw [Memory.read_write sound, if_neg (State.halfWritten_eq_target flight target half ▸ other)]

/-- Settles O13: block by block; of the array what an abandoned write may have touched is set apart. -/
theorem coldResetValues : Obligations.ColdResetValues := by
  intro s
  refine ⟨s.coldReset, rfl, rfl, rfl, rfl, fun p => ?ports, rfl, rfl, rfl, fun p => ?parking, rfl, rfl, rfl, rfl, rfl, rfl,
    rfl, rfl, rfl, fun p => ?lines, rfl, rfl, rfl, State.abandonedArray_of_not_writing,
    fun o a flight target sound b other => State.abandonedArray_read flight target sound other⟩
  case ports => exact PerPort.get_all _ p
  case parking => exact PerPort.get_all _ p
  case lines => exact PerPort.get_all _ p

/-! ### The release of cold reset (R56, R145, R170) -/

theorem exec_nrstRises (msize : BitVec 2) (pen : PortSet) (low : s.pins.nrst = false) :
    exec (.nrstRises msize pen) s = .next (s.afterRise msize pen) := if_neg (by simp [low])

theorem exec_nrstRises_of_high (msize : BitVec 2) (pen : PortSet) (high : s.pins.nrst = true) :
    exec (.nrstRises msize pen) s = .next s := if_pos high

/-- The sizes of R170. -/
theorem sizeOfCode_eq (msize : BitVec 2) :
    sizeOfCode msize = if msize = 3#2 then 4194304 else if msize = 2#2 then 2097152 else 1048576 := by
  revert msize
  decide

theorem sizeOfCode_div_pageWords (msize : BitVec 2) :
    sizeOfCode msize / Config.pageWords = if msize = 3#2 then 1024 else if msize = 2#2 then 512 else 256 := by
  rw [sizeOfCode_eq]
  split
  · rfl
  · split <;> rfl

/-- Every configured page is CLEARING, with no owner and empty sets (R56). -/
theorem State.afterRise_entry (s : State) (msize : BitVec 2) (pen : PortSet) (n : Nat) :
    (s.afterRise msize pen).entry n = .afterColdReset := by
  simp [State.entry, State.afterRise]

theorem State.port_afterRise (s : State) (msize : BitVec 2) (pen : PortSet) (p : Port) :
    (s.afterRise msize pen).port p = portAtRise (pen.get p) (s.pins.prst.get p) := PerPort.get_ofFn _ p

theorem State.port_cold (prst : PortSet) (array : Memory) (draws : Nat) (pending : List Instr) (p : Port) :
    (State.cold prst array draws pending).port p = .inReset := PerPort.get_all _ p

theorem State.changesOnly_afterRise_cold (prst : PortSet) (array : Memory) (draws : Nat) (pending : List Instr)
    (msize : BitVec 2) (pen : PortSet) :
    (State.cold prst array draws pending).ChangesOnly ((State.cold prst array draws pending).afterRise msize pen)
      [.pins, .ports, .entries, .refresh, .clear, .control] := by
  intro b hb
  cases b <;> first | rfl | exact absurd (by simp) hb

/-- Settles O14: from the reset values on, what the rise puts in their place. -/
theorem riseBuildsMap : Obligations.RiseBuildsMap := by
  refine fun s msize pen => ⟨exec_nrstRises_of_high msize pen, fun low sound => ?_⟩
  have reset := sound.eq_cold low
  have port (p : Port) : s.port p = .inReset := by rw [reset, State.port_cold]
  refine ⟨_, exec_nrstRises msize pen low, rfl, rfl, rfl, ?items, sizeOfCode_eq msize, sizeOfCode_div_pageWords msize,
    List.length_replicate, fun n _ => s.afterRise_entry msize pen n, rfl, rfl,
    fun p => ⟨fun absent => ?_, fun present low => ?_,
      fun present high => ?_⟩, ?frame⟩
  case items => rw [reset]; rfl
  case frame =>
    rw [reset]
    exact State.changesOnly_afterRise_cold _ _ _ _ msize pen
  · rw [State.port_afterRise, port, absent]
    rfl
  · rw [State.port_afterRise, port, present, low]
    rfl
  · rw [State.port_afterRise, port, present, high]
    rfl

/-! ### A port reset (R32, R33, R78, R102, R163) -/

theorem State.changesOnly_setPins (pins : Pins) : s.ChangesOnly (s.setPins pins) [.pins] := by
  intro b hb
  cases b <;> first | rfl | exact absurd (by simp) hb

theorem State.ChangesOnly.refl (s : State) (l : List Block) : s.ChangesOnly s l := fun b _ => by cases b <;> rfl

/-- A cut offer returns its page to HELD and hands over one notice. -/
theorem State.changesOnly_foldl_cutOffer (l : List OfferEntry) :
    s.ChangesOnly (l.foldl (State.cutOffer p) s) [.entries, .asked] := by
  induction l generalizing s with
  | nil => exact State.ChangesOnly.refl s _
  | cons o rest ih =>
    exact (((State.changesOnly_setEntry _ _).trans (State.changesOnly_ask _)).trans ih).mono (by simp)

section
variable (s)

theorem State.foldl_cutOffer_offers (l : List OfferEntry) :
    (l.foldl (State.cutOffer p) s).pageMap.offers = s.pageMap.offers :=
  State.changesOnly_foldl_cutOffer l .offers (by simp)

theorem State.foldl_cutOffer_length (l : List OfferEntry) :
    (l.foldl (State.cutOffer p) s).pageMap.entries.length = s.pageMap.entries.length := by
  induction l generalizing s with
  | nil => rfl
  | cons o rest ih => simp [ih, State.cutOffer, State.backToHeld]

theorem State.foldl_cutOffer_entry_of_not_mem {l : List OfferEntry} (other : n ∉ l.map OfferEntry.page) :
    (l.foldl (State.cutOffer p) s).entry n = s.entry n := by
  induction l generalizing s with
  | nil => rfl
  | cons o rest ih =>
    obtain ⟨first, others⟩ := not_or.mp (mt List.mem_cons.mpr other)
    exact (ih (s := State.cutOffer p s o) others).trans (State.entry_setEntry_of_ne s _ first)

theorem State.foldl_cutOffer_entry_of_mem {l : List OfferEntry} (inMap : n < s.pageMap.entries.length)
    (named : n ∈ l.map OfferEntry.page) :
    (l.foldl (State.cutOffer p) s).entry n = { s.entry n with state := .held } := by
  induction l generalizing s with
  | nil => exact absurd named List.not_mem_nil
  | cons o rest ih =>
    have first : n = o.page → (State.cutOffer p s o).entry n = { s.entry n with state := .held } := by
      rintro rfl
      exact State.entry_setEntry_same s _ _ inMap
    have inMap' : n < (State.cutOffer p s o).pageMap.entries.length := by
      simpa [State.cutOffer, State.backToHeld] using inMap
    by_cases again : n ∈ rest.map OfferEntry.page
    · rw [List.foldl_cons, ih _ inMap' again]
      by_cases here : n = o.page
      · rw [first here]
      · rw [show (State.cutOffer p s o).entry n = s.entry n from State.entry_setEntry_of_ne s _ here]
    · rw [List.foldl_cons, State.foldl_cutOffer_entry_of_not_mem _ again]
      exact first ((List.mem_cons.mp named).resolve_right again)

end

/-- The offers that a port reset cuts, and those that it leaves (R78). -/
def offersOf (p : Port) (l : List OfferEntry) : List OfferEntry := l.filter fun o => o.names p

/-- The offers that do not name a port. -/
def offersWithout (p : Port) (l : List OfferEntry) : List OfferEntry := l.filter fun o => !o.names p

theorem OfferEntry.names_iff {o : OfferEntry} : o.names p = true ↔ o.fromPort = p ∨ o.toPort = p := by
  simp [OfferEntry.names]

theorem mem_offersOf {l : List OfferEntry} {o : OfferEntry} :
    o ∈ offersOf p l ↔ o ∈ l ∧ (o.fromPort = p ∨ o.toPort = p) := by
  simp [offersOf, OfferEntry.names_iff]

theorem mem_map_page_offersOf {l : List OfferEntry} :
    n ∈ (offersOf p l).map OfferEntry.page ↔ ∃ o ∈ l, (o.fromPort = p ∨ o.toPort = p) ∧ o.page = n := by
  simp [mem_offersOf, and_assoc]

section
variable (s)

theorem State.portReset_offers : (s.portReset p).pageMap.offers = offersWithout p s.pageMap.offers := by
  simp [State.portReset, State.cutOffers, State.foldl_cutOffer_offers, offersWithout]

/-- The page map's part of a port reset: the page of every cut offer returns to HELD (R78). -/
theorem State.portReset_entries :
    (s.portReset p).pageMap.entries = ((offersOf p s.pageMap.offers).foldl (State.cutOffer p)
      ((s.setPort p (s.port p).portReset).setOffers (offersWithout p s.pageMap.offers))).pageMap.entries := rfl

theorem State.portReset_length : (s.portReset p).pageMap.entries.length = s.pageMap.entries.length := by
  rw [State.portReset_entries, State.foldl_cutOffer_length]
  rfl

theorem State.portReset_entry_of_cut (inMap : n < s.pageMap.entries.length)
    (named : n ∈ (offersOf p s.pageMap.offers).map OfferEntry.page) :
    (s.portReset p).entry n = { s.entry n with state := .held } :=
  (State.entry_congr s.portReset_entries n).trans (State.foldl_cutOffer_entry_of_mem _ inMap named)

theorem State.portReset_entry_of_not_cut (other : n ∉ (offersOf p s.pageMap.offers).map OfferEntry.page) :
    (s.portReset p).entry n = s.entry n :=
  (State.entry_congr s.portReset_entries n).trans (State.foldl_cutOffer_entry_of_not_mem _ other)

/-- The reservations that stay are those of other ports (R102). -/
theorem State.portReset_reservations :
    (s.portReset p).table.entries = s.table.entries.filter (fun e => decide (e.port ≠ p)) := by
  have cut := (State.changesOnly_foldl_cutOffer (p := p) (s := (s.setPort p (s.port p).portReset).setOffers
    (offersWithout p s.pageMap.offers)) (offersOf p s.pageMap.offers)) .reservations (by simp)
  have dropped : (s.portReset p).table.entries = (((s.setPort p (s.port p).portReset).cutOffers p).dropReservations
    fun e => decide (e.port = p)).table.entries := rfl
  rw [dropped, State.dropReservations_entries]
  simp only [State.cutOffers]
  refine (congrArg _ cut).trans ?_
  simp

theorem State.parkingSound_portReset : (s.portReset p).ParkingSound :=
  (State.parkingSound_congr rfl rfl).mpr (State.parkingSound_dropReservations (s := (s.setPort p _).cutOffers p) _)

theorem State.changesOnly_setLog_forget : s.ChangesOnly (s.setLog (s.log.forget p)) [.records, .lines] := by
  intro b hb
  cases b <;> first | rfl | exact absurd (by simp) hb

theorem State.changesOnly_portReset :
    s.ChangesOnly (s.portReset p) [.ports, .entries, .offers, .reservations, .parking, .records, .lines, .asked] :=
  ((((State.changesOnly_setPort.trans (State.changesOnly_setOffers _)).trans
    (State.changesOnly_foldl_cutOffer _)).trans (State.changesOnly_dropReservations _)).trans
    (State.changesOnly_setLog_forget _)).mono (by simp)

end

theorem exec_prstFalls (high : s.pins.nrst = true) (active : (s.port p).state = .active) :
    exec (.prstFalls p) s = .next ((s.setPrst p false).portReset p) := by
  have falls : (s.pins.nrst && s.isActive p) = true := by simp [high, State.isActive_iff.mpr active]
  exact if_pos falls

/-- A page with an offer is OFFERED, and so has an entry (R71). -/
theorem State.OffersSound.lt_of_mem (sound : s.OffersSound) {o : OfferEntry} (stands : o ∈ s.pageMap.offers) :
    o.page < s.pageMap.entries.length := by
  have offered := (sound.offered o.page).mpr (List.mem_map_of_mem stands)
  exact State.lt_of_entry (by simp [offered])

/-- Settles O15: what each block gives up, in the order in which the reset comes to them. -/
theorem portReset : Obligations.PortReset := by
  intro s p high active sound
  have pins : ((s.setPrst p false).portReset p).pins = (s.setPrst p false).pins :=
    State.changesOnly_portReset _ .pins (by simp)
  refine ⟨_, exec_prstFalls high active, pins.trans (by rw [← high]; rfl), ?port, fun q other => ?others, ?offers,
    fun o stands named => ?cut, fun n uncut => ?uncut,
    State.portReset_length _, ?asked, State.portReset_reservations _, State.parkingSound_portReset _, ?records, ?lines,
    ((State.changesOnly_setPins _).trans (State.changesOnly_portReset _)).mono (by simp)⟩
  case port =>
    rw [State.port, State.portReset_ports, PerPort.get_set_same]
    rfl
  case others =>
    rw [State.port, State.portReset_ports, PerPort.get_set_of_ne _ _ other]
    rfl
  case offers =>
    rw [State.portReset_offers, offersWithout]
    simp [OfferEntry.names, State.setPrst]
  case cut =>
    exact State.portReset_entry_of_cut _ (sound.lt_of_mem stands) (mem_map_page_offersOf.mpr ⟨o, stands, named, rfl⟩)
  case uncut =>
    refine State.portReset_entry_of_not_cut _ fun cut => ?_
    obtain ⟨o, stands, named, page⟩ := mem_map_page_offersOf.mp cut
    exact uncut o stands named page
  case asked =>
    rw [State.portReset_log]
    rfl
  case records =>
    rw [State.portReset_log]
    rfl
  case lines =>
    rw [State.portReset_log]
    rfl

/-! ### Every other change of PRST (R18, R20, R35) -/

theorem exec_prstRises (high : s.pins.nrst = true) (reset : (s.port p).state = .reset) :
    exec (.prstRises p) s = .next ((s.setPrst p true).enterActive p) := by
  have rises : (s.pins.nrst && decide ((s.port p).state = .reset)) = true := by simp [high, reset]
  exact if_pos rises

theorem exec_prstRises_of_pin (alone : s.pins.nrst = false ∨ (s.port p).state ≠ .reset) :
    exec (.prstRises p) s = .next (s.setPrst p true) := by
  have notRises : ¬ (s.pins.nrst && decide ((s.port p).state = .reset)) = true := by
    rcases alone with low | other <;> simp [*]
  exact if_neg notRises

theorem exec_prstFalls_of_pin (alone : s.pins.nrst = false ∨ (s.port p).state ≠ .active) :
    exec (.prstFalls p) s = .next (s.setPrst p false) := by
  have notFalls : ¬ (s.pins.nrst && s.isActive p) = true := by
    rcases alone with low | other <;> simp [*, State.isActive]
  exact if_neg notFalls

/-- With no request waiting a port enters ACTIVE and nothing else changes. -/
theorem State.enterActive_of_nil (nothing : s.log.asked = []) :
    s.enterActive p = s.setPort p (s.port p).enterActive := by
  rw [State.enterActive, State.logTakesAll, NoticeLog.takeAll_of_nil _ nothing]
  rfl

theorem State.changesOnly_enterActive :
    s.ChangesOnly (s.enterActive p) [.ports, .records, .sequence, .lost, .lines, .asked] := by
  intro b hb
  cases b <;> first | rfl | exact absurd (by simp) hb

/-- A port that is not ACTIVE is in no record, and the log takes what waits without it (R35, R155, R159). -/
theorem State.enterActive_records (sound : s.LogSound) (inactive : (s.port p).state ≠ .active) :
    ∀ x ∈ (s.enterActive p).log.records, x.recipients.get p = false := by
  intro x hx
  obtain ⟨records, -⟩ := State.logSound_iff.mp sound
  refine Bool.eq_false_iff.mpr fun held => ?_
  have active := records.takeAll.active x hx p held
  rw [State.activePorts_get, State.isActive_iff] at active
  exact inactive active

/-- The rise takes the waiting requests as NOTICE_RECORD_CREATE would, the oldest first (log entry 24). -/
theorem State.enterActive_oldestTaken {r : NoticeRequest} {waiting : List NoticeRequest}
    (oldest : s.log.asked = r :: waiting) : (s.oldestTaken r waiting).enterActive p = s.enterActive p := by
  have sameLog : (s.oldestTaken r waiting).logTakesAll = s.logTakesAll := by
    rw [State.logTakesAll, State.logTakesAll, NoticeLog.takeAll_of_cons _ oldest]
    rfl
  rw [State.enterActive, sameLog]
  rfl

/-- Settles O16: the rise that makes a port ACTIVE, then the changes that move the pin alone. -/
theorem prstChanges : Obligations.PrstChanges := by
  refine fun s p => ⟨fun high reset => ⟨⟨_, exec_prstRises high reset, ?_⟩, fun r waiting oldest => ?oldest⟩,
    fun alone => ⟨_, exec_prstRises_of_pin alone, rfl, State.changesOnly_setPins _⟩,
    fun alone => ⟨_, exec_prstFalls_of_pin alone, rfl, State.changesOnly_setPins _⟩⟩
  · refine ⟨by rw [← high]; rfl, State.port_setPort_same _ _ _, fun q other => State.port_setPort_of_ne _ _ other,
      NoticeLog.takeAll_asked _ _, fun nothing => ?_, fun sound => ?_,
      (State.changesOnly_setPins _).trans State.changesOnly_enterActive⟩
    · rw [State.enterActive_of_nil (s := s.setPrst p true) nothing]
      exact (State.changesOnly_setPins _).trans State.changesOnly_setPort
    · have risen : (s.setPrst p true).LogSound := sound.of_blocks rfl rfl
      have inactive : ((s.setPrst p true).port p).state ≠ .active := fun active => nomatch reset.symm.trans active
      exact State.enterActive_records risen inactive
  case oldest =>
    have still : ((s.oldestTaken r waiting).port p).state = .reset := reset
    refine ⟨_, execNoticeRecordCreate_oldest s oldest, NoticeLog.take_asked _ _ _, ?_⟩
    rw [exec_prstRises high reset]
    exact (congrArg _ (State.enterActive_oldestTaken (s := s.setPrst p true) oldest)).symm.trans
      (exec_prstRises (s := s.oldestTaken r waiting) high still).symm

end Sys2Proof.Machine
end

section
/-! PROOF. The rights of a port on a page (R44), the access check at grant (R29, R46), and what the grant of READ, WRITE and
MERGE-WRITE does with its verdict (R48, R108 to R111). -/
namespace Sys2Proof.Machine

variable {s : State} {e : PageEntry} {p : Port} {m : Request}

/-! ### The rights table (R44) -/

theorem PageEntry.isHeld_iff : e.isHeld = true ↔ e.state = .held ∨ e.state = .offered := by
  simp [PageEntry.isHeld]

theorem PageEntry.isHeld_eq_false_iff : e.isHeld = false ↔ e.state = .free ∨ e.state = .clearing := by
  cases state : e.state <;> simp [PageEntry.isHeld, state]

theorem PageEntry.ownedBy_iff : e.ownedBy p = true ↔ (e.state = .held ∨ e.state = .offered) ∧ e.owner = some p := by
  simp [PageEntry.ownedBy, PageEntry.isHeld_iff]

theorem PageEntry.mayWrite_iff : e.mayWrite p = true ↔
    (e.state = .held ∨ e.state = .offered) ∧ (e.owner = some p ∨ e.writeSet.get p = true) := by
  simp [PageEntry.mayWrite, PageEntry.isHeld_iff]

theorem PageEntry.mayRead_iff : e.mayRead p = true ↔
    (e.state = .held ∨ e.state = .offered) ∧
      (e.owner = some p ∨ e.readSet.get p = true ∨ e.writeSet.get p = true) := by
  simp [PageEntry.mayRead, PageEntry.isHeld_iff, or_assoc]

theorem PageEntry.mayRead_of_mayWrite (write : e.mayWrite p = true) : e.mayRead p = true := by
  obtain ⟨held, right⟩ := PageEntry.mayWrite_iff.mp write
  exact PageEntry.mayRead_iff.mpr ⟨held, right.imp_right .inr⟩

/-- Nobody has a right on a FREE or CLEARING page. -/
theorem PageEntry.no_right (unheld : e.isHeld = false) : e.mayRead p = false ∧ e.mayWrite p = false := by
  simp [PageEntry.mayRead, PageEntry.mayWrite, unheld]

/-- OFFERED gives what HELD gives: a right asks for no more than that the page is one of the two. -/
theorem PageEntry.rights_of_offered (held : e.state = .held) :
    PageEntry.mayRead { e with state := .offered } p = e.mayRead p ∧
      PageEntry.mayWrite { e with state := .offered } p = e.mayWrite p := by
  have isHeld : e.isHeld = true := PageEntry.isHeld_iff.mpr (.inl held)
  have isHeld' : PageEntry.isHeld { e with state := .offered } = true := PageEntry.isHeld_iff.mpr (.inr rfl)
  simp only [PageEntry.mayRead, PageEntry.mayWrite, isHeld, isHeld', and_self]

/-- The owner has either right of a request (R44, R46). -/
theorem PageEntry.mayDo_of_ownedBy (owned : e.ownedBy p = true) (k : RequestKind) : e.mayDo k p = true := by
  obtain ⟨held, owner⟩ := PageEntry.ownedBy_iff.mp owned
  have write : e.mayWrite p = true := PageEntry.mayWrite_iff.mpr ⟨held, .inl owner⟩
  unfold PageEntry.mayDo
  split
  · exact PageEntry.mayRead_of_mayWrite write
  · exact write

/-- On a page in ON the owner alone may use SET and CLEAR (R12, R44). -/
theorem accessCheck_eq_none_iff_ownedBy {k : RequestKind} {action : GuardAction} (acts : action ≠ .keep)
    (guardOn : e.guardMode = .on) : accessCheck e p k action = none ↔ e.ownedBy p = true := by
  constructor
  · exact fun passed => (accessCheck_passed passed acts).2
  · intro owned
    simp [accessCheck, PageEntry.mayDo_of_ownedBy owned, guardOn, owned]

theorem owner_of_judgeOwner (passed : judgeOwner e p = none) : e.owner = some p := by
  cases owned : e.ownedBy p with
  | true => exact PageEntry.owner_of_ownedBy owned
  | false => simp [judgeOwner_of_not_owned owned] at passed

theorem owner_of_judgeWithdraw (passed : judgeWithdraw e p = none) : e.owner = some p := by
  cases owned : e.ownedBy p with
  | true => exact PageEntry.owner_of_ownedBy owned
  | false => simp [judgeWithdraw_of_not_owned owned] at passed

/-- Settles O17: the rows of the table, then the three places where the owner is distinguished. -/
theorem rightsFollowEntry : Obligations.RightsFollowEntry := by
  refine fun e p => ⟨fun held => ⟨fun owner => ?owner, fun written => ?writer, fun reads writes other => ?reader,
      fun other reads writes => ?nobody⟩, fun unheld => PageEntry.no_right (PageEntry.isHeld_eq_false_iff.mpr unheld),
    PageEntry.mayRead_of_mayWrite, PageEntry.rights_of_offered, fun k a acts guardOn => ?guard, fun t read owner => ?check,
    owner_of_judgeOwner, owner_of_judgeWithdraw⟩
  case owner =>
    exact ⟨PageEntry.mayRead_iff.mpr ⟨held, .inl owner⟩, PageEntry.mayWrite_iff.mpr ⟨held, .inl owner⟩⟩
  case writer =>
    exact ⟨PageEntry.mayRead_iff.mpr ⟨held, .inr (.inr written)⟩, PageEntry.mayWrite_iff.mpr ⟨held, .inr written⟩⟩
  case reader =>
    exact ⟨PageEntry.mayRead_iff.mpr ⟨held, .inr (.inl reads)⟩,
      Bool.eq_false_iff.mpr fun write => by simpa [other, writes] using (PageEntry.mayWrite_iff.mp write).2⟩
  case nobody =>
    exact ⟨Bool.eq_false_iff.mpr fun read => by simpa [other, reads, writes] using (PageEntry.mayRead_iff.mp read).2,
      Bool.eq_false_iff.mpr fun write => by simpa [other, writes] using (PageEntry.mayWrite_iff.mp write).2⟩
  case guard => rw [accessCheck_eq_none_iff_ownedBy acts guardOn, PageEntry.ownedBy_iff]
  case check => simp [guardRefuses, owner]

/-! ### The three steps of the access check (R46) -/

/-- The first step turns away who lacks the right the kind needs: the read right for READ, else the write right. -/
theorem PageEntry.mayDo_eq_false_iff {k : RequestKind} :
    e.mayDo k p = false ↔ (k = .read ∧ e.mayRead p = false) ∨ (k ≠ .read ∧ e.mayWrite p = false) := by
  by_cases read : k = .read <;> simp [PageEntry.mayDo, read]

/-- Once the first step has passed, the page is HELD or OFFERED, so that the owner check asks for the owner alone. -/
theorem PageEntry.ownedBy_iff_of_mayDo {k : RequestKind} (may : e.mayDo k p = true) :
    e.ownedBy p = true ↔ e.owner = some p := by
  have isHeld : e.isHeld = true := by
    cases held : e.isHeld with
    | true => rfl
    | false => simp [PageEntry.mayDo, PageEntry.no_right held] at may
  simp [PageEntry.ownedBy, isHeld]

theorem judgedAction_of_named {k : RequestKind} {a : GuardAction} (uses : k.usesGuardAction = true)
    (named : m.guardAction = some a) : m.judgedAction k = a := by
  simp [Request.judgedAction, uses, named]

/-- Settles O18, by the verdict of the first step. -/
theorem accessCheckSteps : Obligations.AccessCheckSteps := by
  refine ⟨fun e p k a => ?steps, fun _ => rfl, fun m k a => judgedAction_of_named⟩
  cases may : e.mayDo k p with
  | false =>
    rw [if_pos (PageEntry.mayDo_eq_false_iff.mp may)]
    simp [accessCheck, may]
  | true =>
    rw [if_neg (mt PageEntry.mayDo_eq_false_iff.mpr (by simp [may]))]
    simp [accessCheck, may, ← PageEntry.ownedBy_iff_of_mayDo may]

/-! ### The verdict at the grant (R48, R111) -/

section
variable {i : Instr} {k : RequestKind} (chosen : s.arbiterChoice = some (.port p)) (routed : s.Routed p m k)
include chosen routed

theorem exec_portGrant_of_chosen (grant : (i, k) ∈ portGrants p) : exec i s = .next (s.grantOf p m k) := by
  rw [exec_portGrant grant, State.grantable_eq chosen routed]
  rfl

/-- A kind whose only check is the page map's begins its operation when it passes (R47, R48). -/
theorem exec_plainGrant_of_passed
    (grant : (i, k) ∈ [(Instr.read p, RequestKind.read), (.write p, .write), (.mergeWrite p, .mergeWrite)])
    (passed : accessCheck (s.entry (pageOf m.addr)) p k (m.judgedAction k) = none) :
    exec i s = .next ((s.toGranted p m).beginFor p m k) := by
  have access : (s.toGranted p m).checkAccess p m k = none := passed
  have plain : s.grantOf p m k = s.grantPlain p m k := by
    simp only [List.mem_cons, Prod.mk.injEq, List.not_mem_nil, or_false] at grant
    rcases grant with ⟨-, rfl⟩ | ⟨-, rfl⟩ | ⟨-, rfl⟩ <;> rfl
  rw [exec_portGrant_of_chosen chosen routed (List.mem_append_left [(.lockedRead p, .lockedRead), (.condWrite p, .condWrite)]
    grant), plain, State.grantPlain, access]

end

/-- Whatever the kind, a request that the page map refuses is answered with the page map's status (R48). -/
theorem State.grantOf_of_refused {k : RequestKind} {st : Status}
    (refused : accessCheck (s.entry (pageOf m.addr)) p k (m.judgedAction k) = some st) :
    s.grantOf p m k = (s.toGranted p m).answerStatus p m st := by
  have access : (s.toGranted p m).checkAccess p m k = some st := refused
  unfold State.grantOf
  split
  · simp only [State.grantLockedRead, access]
  · simp only [State.grantCondWrite, access]
  · simp only [State.grantPlain, access]

/-- Settles O20, from the one check these kinds meet. -/
theorem grantsBegin : Obligations.GrantsBegin := fun _ _ _ grant _ _ chosen routed passed =>
  completes_begun_at_grant (exec_plainGrant_of_passed chosen routed grant passed)

/-- Settles O21: the page map's check comes first for every kind. -/
theorem grantsRefused : Obligations.GrantsRefused := by
  intro i k p grant s m st chosen routed refused
  refine completes_refused_at_grant routed ?_
  rw [exec_portGrant_of_chosen chosen routed grant, State.grantOf_of_refused refused]

end Sys2Proof.Machine
end

section
/-! PROOF. The response of a completed port operation (R37, R117 to R120, R125) and the completion of the operations that
leave the reservations alone (R3, R33, R124, R127). -/
namespace Sys2Proof.Machine

variable {s u : State} {o : Operation} {t : PortTerms} {d : DecodeResult} {c : Guarded}

/-! ### The response (R125) -/

theorem responseOf_of_unread (unread : o.decoded = none) : responseOf o t = plainResponse t.msg .ok := by
  simp [responseOf, unread]

/-- An uncorrectable read is answered DATA-LOST, whatever the operation (R117, R119, R120). -/
theorem responseOf_of_uncorrected (read : o.decoded = some d) (lost : d.corrected = none) :
    responseOf o t = plainResponse t.msg .dataLost := by
  simp [responseOf, read, readResponse, checkedResponse, lost]

theorem responseOf_of_read (read : o.decoded = some d) (corrected : d.corrected = some c) (kind : o.kind = .read) :
    responseOf o t =
      { tag := t.msg.tag, status := .ok, corrected := d.isSingle, data := some c.data,
        guard := if t.guardMode = .on then some c.guard else none, image := none } := by
  simp [responseOf, read, kind, readResponse, corrected, GuardMode.isOn_iff]

/-- An operation that checks before it writes is OK when it has settled a word and GUARDED when it has not (R119, R120). -/
theorem responseOf_of_checked (read : o.decoded = some d) (corrected : d.corrected = some c) (kind : o.kind ≠ .read) :
    responseOf o t =
      { tag := t.msg.tag, status := if o.settled = none then .guarded else .ok, corrected := d.isSingle,
        data := none, guard := none, image := none } := by
  cases settled : o.settled <;> simp [responseOf, read, kind, checkedResponse, corrected, plainResponse, settled]

/-- Settles O31, row by row. -/
theorem responseTable : Obligations.ResponseTable := fun _ _ =>
  ⟨responseOf_of_unread, fun d read => ⟨d.isSingle_iff, responseOf_of_uncorrected read, fun _ corrected =>
    ⟨responseOf_of_read read corrected, responseOf_of_checked read corrected⟩⟩⟩

/-! ### The completion (R124, R127) -/

/-- The four completions of the operations that serve ports. -/
theorem exec_portCompletion {i : Instr} {k : OpKind} (completion : (i, k) ∈ [(Instr.readOpCompletes, OpKind.read),
      (.storeCompletes, .store), (.checkedStoreCompletes, .checkedStore), (.mergeCompletes, .merge)])
    (flight : s.InFlight o k) : exec i s = .next (s.complete o) := by
  have completing := State.completing_eq flight
  simp only [List.mem_cons, Prod.mk.injEq, List.not_mem_nil, or_false] at completion
  rcases completion with ⟨rfl, rfl⟩ | ⟨rfl, rfl⟩ | ⟨rfl, rfl⟩ | ⟨rfl, rfl⟩
  · exact exec_readOpCompletes flight
  · change execStoreCompletes s = _
    rw [execStoreCompletes, completing]
  · change execCheckedStoreCompletes s = _
    rw [execCheckedStoreCompletes, completing]
  · change execMergeCompletes s = _
    rw [execMergeCompletes, completing]

/-- A request other than LOCKED-READ has no reservation effect (R91). -/
theorem State.reserveOf_of_ne_lockedRead (kind : t.kind ≠ .lockedRead) : s.reserveOf o t = s := by
  unfold State.reserveOf
  split
  next locked _ => exact absurd locked kind
  next => rfl

theorem State.complete_of_port (served : o.served = .port t) (kind : t.kind ≠ .lockedRead) :
    s.complete o = ((s.reported o).giveAnswer t (responseOf o t)).setSequencer none := by
  simp [State.complete, State.reported, State.servePort, served, State.reserveOf_of_ne_lockedRead kind]

/-- An operation that has read nothing makes no report (R11, R118). -/
theorem State.reported_of_unread (unread : o.decoded = none) : s.reported o = s.landWrite o := by
  simp [State.reported, State.reportOf, unread]

/-- The reports of a completion, whether a word was read or not. -/
theorem State.reportsOf_reported {a : Nat} {f : Finder} (finder : o.finder = f) (target : o.target = .word a)
    (inMap : pageOf a < s.pageMap.entries.length) (entries : u.pageMap.entries = (s.reported o).pageMap.entries)
    (asked : u.log.asked = (s.reported o).log.asked) : s.ReportsOf u a f o.decoded := by
  subst finder
  cases read : o.decoded with
  | none =>
    rw [State.reported_of_unread read] at entries asked
    exact ⟨by simpa using entries, by simpa using asked⟩
  | some d => exact State.reportsMade_reported target read inMap entries asked

theorem State.changesOnly_reportOf : s.ChangesOnly (s.reportOf o) [.entries, .asked] := by
  unfold State.reportOf
  split
  · exact State.changesOnly_report _
  · exact State.ChangesOnly.refl s _
  · exact State.ChangesOnly.refl s _

/-- Settles O32: the write and the reports as of any completion, then the answer with and without the orphan mark. -/
theorem portOperationCompletes : Obligations.PortOperationCompletes := by
  intro i k completion s o t flight served target kind inMap sound
  have finder : o.finder = .port t.port := by simp [Operation.finder, served]
  refine ⟨_, exec_portCompletion completion flight, ?_⟩
  rw [State.complete_of_port served kind]
  refine ⟨rfl, State.wordBecomes_landWrite sound target (by simp),
    State.reportsOf_reported finder target inMap (by simp) (by simp), fun answered => ?answered, fun orphan => ?orphan,
    (((State.changesOnly_landWrite.trans State.changesOnly_reportOf).trans (State.changesOnly_giveAnswer _)).trans
      (State.changesOnly_setSequencer _)).mono (by simp)⟩
  case answered =>
    rw [State.giveAnswer_of_not_orphan _ (by simpa using answered)]
    exact ⟨State.answeredWith_answer State.reported_ports _ _,
      State.remarked_answer (u := s.reported o) (congrArg _ State.reported_table) _ _⟩
  case orphan =>
    rw [State.giveAnswer_of_orphan _ (by simpa using orphan), State.reported_port]
    exact ⟨State.port_setPort_same _ _ _, fun q other => (State.port_setPort_of_ne _ _ other).trans State.reported_port,
      congrArg _ State.reported_table⟩

end Sys2Proof.Machine
end

section
/-! PROOF. PAGE-QUERY (R54) and NOTICE_RECORD_CREATE (R155 to R157, R162). -/
namespace Sys2Proof.Machine

variable {s : State} {p q : Port} {m : Request}

theorem exec_pageQuery (routed : s.Routed p m .pageQuery) :
    exec (.pageQuery p) s =
      .next (s.answer p { plainResponse m .ok with image := some (.page (s.pageImage m.page)) }) := by
  change execPageQuery p s = _
  rw [execPageQuery, routed.eq]

/-- Settles O47: the image is of the entry and the offer list as they stand, and the answer is all that changes. -/
theorem pageQueryTaken : Obligations.PageQueryTaken := fun _ p _ routed =>
  ⟨_, exec_pageQuery routed, State.answeredWith_answer rfl p _, State.remarked_answer rfl p _,
    State.changesOnly_answer p _⟩

/-! ### The recipients (R53, R155) -/

/-- Of a page with an owner the notice goes to the owner and the read set (R53). -/
theorem PageInfo.get_recipients_of_held {i : PageInfo} (active : PortSet) (held : i.state = .held ∨ i.state = .offered) :
    (i.recipients active).get q = (active.get q && (decide (i.owner = some q) || i.readSet.get q)) := by
  have owner : PerPort.get ((i.owner.map PortSet.only).getD PortSet.empty) q = decide (i.owner = some q) := by
    cases named : i.owner with
    | none => simp
    | some o => simp [eq_comm]
  rcases held with held | held <;> simp [PageInfo.recipients, held, owner, Bool.and_comm]

/-- Of a page without an owner it goes to every ACTIVE port (R53). -/
theorem PageInfo.recipients_of_unheld {i : PageInfo} (active : PortSet) (unheld : i.state = .free ∨ i.state = .clearing) :
    i.recipients active = active := by
  rcases unheld with unheld | unheld <;> simp [PageInfo.recipients, unheld]

/-- The notices about a page have the page's recipients (R155). -/
theorem NoticeRequest.recipients_of_page {addr page : Nat} {syndrome : BitVec 6} {sub : Subclass} {finder : Finder}
    {double : Bool} {info : PageInfo} {r : NoticeRequest} (active : PortSet)
    (about : r ∈ [NoticeRequest.corrected addr page syndrome sub finder info,
      .uncorrectable addr page syndrome double finder info, .weakPage page info]) :
    r.recipients active = info.recipients active := by
  simp only [List.mem_cons, List.not_mem_nil, or_false] at about
  rcases about with rfl | rfl | rfl <;> rfl

/-! ### The request that is taken (R157) -/

theorem NoticeRequest.from_iff {asker : Asker} {r : NoticeRequest} : r.from asker = true ↔ r.asker = asker := by
  simp [NoticeRequest.from]

section
variable {asker : Asker} {before behind : List NoticeRequest} {r : NoticeRequest}

/-- With nothing handed over by the block there is nothing to take (log entry 9). -/
theorem exec_noticeRecordCreate_of_none (nothing : ∀ x ∈ s.log.takeable, x.asker ≠ asker) :
    exec (.noticeRecordCreate asker) s = .next s := by
  have missing : s.log.takeable.find? (NoticeRequest.from asker) = none :=
    List.find?_eq_none.mpr fun x hx => mt NoticeRequest.from_iff.mp (nothing x hx)
  change execNoticeRecordCreate asker s = _
  rw [execNoticeRecordCreate, missing]

theorem NoticeLog.takeable_of_ready {l : NoticeLog} (ready : l.asked.head? = some .ready) : l.takeable = [.ready] :=
  if_pos ready

theorem NoticeLog.takeable_of_not_ready {l : NoticeLog} (other : l.asked.head? ≠ some .ready) : l.takeable = l.asked :=
  if_neg other

theorem NoticeLog.mem_asked_of_takeable {l : NoticeLog} {x : NoticeRequest} (takeable : x ∈ l.takeable) :
    x ∈ l.asked := by
  by_cases ready : l.asked.head? = some .ready
  · rw [NoticeLog.takeable_of_ready ready, List.mem_singleton] at takeable
    exact takeable ▸ List.mem_of_head? ready
  · rwa [NoticeLog.takeable_of_not_ready ready] at takeable

variable (waits : s.log.asked = before ++ r :: behind) (passed : ∀ x ∈ before, x.asker ≠ asker)
include waits passed

/-- The oldest request of the block is taken, unless READY, older than it, is yet to be taken (log entry 25). -/
theorem exec_noticeRecordCreate (asks : r.asker = asker)
    (free : s.log.asked.head? = some .ready → before = []) :
    exec (.noticeRecordCreate asker) s = .next (s.setLog
      (NoticeLog.take { s.log with asked := before ++ behind } s.activePorts r)) := by
  have own : r.from asker = true := NoticeRequest.from_iff.mpr asks
  have others : ∀ x ∈ before, ¬ x.from asker = true := fun x hx => mt NoticeRequest.from_iff.mp (passed x hx)
  have oldest : s.log.takeable.find? (NoticeRequest.from asker) = some r := by
    by_cases ready : s.log.asked.head? = some .ready
    · have first : r = .ready := by simpa [waits, free ready] using ready
      rw [NoticeLog.takeable_of_ready ready, ← first]
      exact List.find?_cons_of_pos own
    · rw [NoticeLog.takeable_of_not_ready ready, waits]
      exact List.find?_eq_some_iff_append.mpr ⟨own, before, behind, rfl, by simpa using others⟩
  have left : s.log.asked.eraseP (NoticeRequest.from asker) = before ++ behind := by
    rw [waits, List.eraseP_append_right _ (by simpa using others), List.eraseP_cons_of_pos own]
  change execNoticeRecordCreate asker s = _
  rw [execNoticeRecordCreate, oldest]
  dsimp only
  rw [left]

/-- While READY is the oldest that waits, no other request is taken (R164, R167; log entry 25). -/
theorem exec_noticeRecordCreate_behind_ready (ready : s.log.asked.head? = some .ready) (other : r ≠ .ready) :
    exec (.noticeRecordCreate asker) s = .next s := by
  refine exec_noticeRecordCreate_of_none fun x hx => ?_
  rw [NoticeLog.takeable_of_ready ready, List.mem_singleton] at hx
  subst hx
  cases before with
  | nil => exact absurd (by simpa [waits] using ready) other
  | cons x rest =>
    obtain rfl : x = .ready := by simpa [waits] using ready
    exact passed _ (List.mem_cons_self ..)

end

/-! ### The record (R156, R162) -/

section
variable {l : NoticeLog} {active : PortSet} {r : NoticeRequest}

theorem NoticeLog.take_of_no_recipient (nobody : ∀ q, (r.recipients active).get q = false) : l.take active r = l :=
  if_pos ((PortSet.isEmpty_iff _).mpr nobody)

theorem NoticeLog.take_of_room (named : (r.recipients active).get q = true) (room : l.records.length < 16) :
    l.take active r =
      { l with records := l.records ++ [{ image := r.image l.sequence, recipients := r.recipients active }],
               sequence := l.sequence + 1#16, lines := PortSet.union l.lines (r.recipients active) } := by
  rw [NoticeLog.take, if_neg (by simp [PortSet.isEmpty_eq_false named]), NoticeLog.create, if_pos room]

theorem NoticeLog.take_of_full (named : (r.recipients active).get q = true) (full : 16 ≤ l.records.length) :
    l.take active r = { l with sequence := l.sequence + 1#16, lost := min 255 (l.lost + 1) } := by
  rw [NoticeLog.take, if_neg (by simp [PortSet.isEmpty_eq_false named]), NoticeLog.create, if_neg (Nat.not_lt.mpr full)]

/-- The record carries the sequence number it took (R156). -/
theorem NoticeRequest.image_sequence (sequence : BitVec 16) (r : NoticeRequest) :
    (r.image sequence).sequence = sequence := by
  cases r <;> rfl

end

/-! #### The parts of the log that a taking changes -/

theorem State.changesOnly_setLog_asked (waiting : List NoticeRequest) :
    s.ChangesOnly (s.setLog { s.log with asked := waiting }) [.asked] := by
  intro b hb
  cases b <;> first | rfl | exact absurd (by simp) hb

theorem State.changesOnly_setLog_recorded (waiting : List NoticeRequest) (records : List NoticeRecord)
    (sequence : BitVec 16) (lines : PortSet) :
    s.ChangesOnly (s.setLog { s.log with asked := waiting, records := records, sequence := sequence, lines := lines })
      [.asked, .sequence, .records, .lines] := by
  intro b hb
  cases b <;> first | rfl | exact absurd (by simp) hb

theorem State.changesOnly_setLog_lost (waiting : List NoticeRequest) (sequence : BitVec 16) (lost : Nat) :
    s.ChangesOnly (s.setLog { s.log with asked := waiting, sequence := sequence, lost := lost })
      [.asked, .sequence, .lost] := by
  intro b hb
  cases b <;> first | rfl | exact absurd (by simp) hb

/-! ### The statement -/

/-- What the log leaves when it has taken a request, by its recipients and the room for its record (R155, R156, R162). -/
theorem State.oldestTaken_record (s : State) (r : NoticeRequest) (waiting : List NoticeRequest) (q : Port)
    (named : (r.recipients s.activePorts).get q = true) :
    (s.oldestTaken r waiting).log.sequence.toNat = (s.log.sequence.toNat + 1) % 65536 ∧
      (s.log.records.length < 16 →
        (s.oldestTaken r waiting).log.records = s.log.records ++
          [{ image := r.image s.log.sequence, recipients := r.recipients s.activePorts }] ∧
        (r.image s.log.sequence).sequence = s.log.sequence ∧
        (∀ p, (s.oldestTaken r waiting).log.lines.get p =
          (s.log.lines.get p || (r.recipients s.activePorts).get p)) ∧
        s.ChangesOnly (s.oldestTaken r waiting) [.asked, .sequence, .records, .lines]) ∧
      (16 ≤ s.log.records.length →
        (s.oldestTaken r waiting).log.lost = min 255 (s.log.lost + 1) ∧
        s.ChangesOnly (s.oldestTaken r waiting) [.asked, .sequence, .lost]) := by
  rcases Nat.lt_or_ge s.log.records.length 16 with room | full
  · have taken := NoticeLog.take_of_room (l := { s.log with asked := waiting }) named room
    simp only [State.oldestTaken, taken]
    exact ⟨BitVec.toNat_add _ _, fun _ => ⟨rfl, r.image_sequence _, fun p => PortSet.get_union _ _ p,
      State.changesOnly_setLog_recorded _ _ _ _⟩, fun full => absurd room (Nat.not_lt.mpr full)⟩
  · have taken := NoticeLog.take_of_full (l := { s.log with asked := waiting }) named full
    simp only [State.oldestTaken, taken]
    exact ⟨BitVec.toNat_add _ _, fun room => absurd room (Nat.not_lt.mpr full),
      fun _ => ⟨rfl, State.changesOnly_setLog_lost _ _ _⟩⟩

/-- Settles O52: the fields by kind, the recipients by kind, which request is taken, and what its record leaves. -/
theorem noticeRecordCreated : Obligations.NoticeRecordCreated := by
  refine ⟨fun sequence addr page syndrome sub finder info a b => ⟨?corrected, fun _ => rfl, fun r kind row => ?bare,
      fun r kind other row => ?ofPage⟩,
    fun active q => ⟨fun addr page syndrome sub finder double info r about => ⟨fun held => ?held, fun unheld => ?unheld⟩,
      rfl, rfl, fun p => PortSet.get_without _ _ _, fun p => ?overrun, fun page a b => ?offers⟩,
    fun s asker nothing => exec_noticeRecordCreate_of_none fun x hx => nothing x (NoticeLog.mem_asked_of_takeable hx),
    fun s asker before r behind waits asks passed => ⟨exec_noticeRecordCreate_behind_ready waits passed, fun free => ?taken⟩⟩
  case corrected => cases sub <;> rfl
  case bare =>
    simp only [List.mem_cons, Prod.mk.injEq, List.not_mem_nil, or_false] at row
    rcases row with ⟨rfl, rfl⟩ | ⟨rfl, rfl⟩ | ⟨rfl, rfl⟩ | ⟨rfl, rfl⟩ <;> rfl
  case ofPage =>
    simp only [List.mem_cons, Prod.mk.injEq, List.not_mem_nil, or_false] at row
    rcases row with ⟨rfl, rfl, rfl⟩ | ⟨rfl, rfl, rfl⟩ | ⟨rfl, rfl, rfl⟩ | ⟨rfl, rfl, rfl⟩ | ⟨rfl, rfl, rfl⟩ <;> rfl
  case held => rw [NoticeRequest.recipients_of_page active about, PageInfo.get_recipients_of_held active held]
  case unheld => rw [NoticeRequest.recipients_of_page active about, PageInfo.recipients_of_unheld active unheld]
  case overrun => simp [NoticeRequest.recipients, Bool.and_comm]
  case offers => simp [NoticeRequest.recipients, Bool.and_comm]
  case taken =>
    refine ⟨_, exec_noticeRecordCreate waits passed asks free, NoticeLog.take_asked _ _ _, fun nobody => ?_,
      fun q named => s.oldestTaken_record r (before ++ behind) q named⟩
    rw [NoticeLog.take_of_no_recipient nobody]
    exact State.changesOnly_setLog_asked _

end Sys2Proof.Machine
end

section
/-! PROOF. Every step keeps the ports sound (R19, R24 to R28): the outstanding count is what the three places hold, a
request waits only behind a current one, and a current request has passed the port's checks, which a change of the device
state takes back from none of them. -/
namespace Sys2Proof.Machine

variable {s t : State} {p q : Port} {m : Request} {k : RequestKind}

/-! ### One port -/

section
variable {r : PortRecord} {check : Request → Option Status}

theorem PortRecord.currentCount_of_none (idle : r.current = none) : r.currentCount = 0 := by
  simp [PortRecord.currentCount, idle]

theorem PortRecord.currentCount_of_some {c : CurrentRequest} (busy : r.current = some c) : r.currentCount = 1 := by
  simp [PortRecord.currentCount, busy]

/-- What `PortRecord.Sound` says of a port that has yet to take its next request. -/
structure PortRecord.Counted (r : PortRecord) : Prop where
  counted : r.outstanding = r.queue.length + r.currentCount + r.responses.length
  credits : r.outstanding ≤ 8
  idle : r.state ≠ .active → r.outstanding = 0 ∧ r.linkUp = false ∧ r.channel = none

theorem PortRecord.Sound.toCounted (h : r.Sound) : r.Counted := ⟨h.counted, h.credits, h.idle⟩

/-- A port that takes its next request is sound: nothing is lost (R19), and without a request to take its queue is empty
(R24). -/
theorem PortRecord.Counted.becomeCurrent (h : r.Counted) : (r.becomeCurrent check).Sound := by
  cases current : r.current with
  | some c =>
    rw [PortRecord.becomeCurrent_of_busy current]
    exact ⟨h.counted, h.credits, fun idle => (nomatch current.symm.trans idle), h.idle⟩
  | none =>
    have kept := takeNext_count check r.queue r.responses
    have counted := h.counted
    rw [PortRecord.currentCount_of_none current] at counted
    rw [PortRecord.becomeCurrent_of_idle current]
    refine ⟨?_, h.credits, fun idle => ?_, h.idle⟩
    · simp only [PortRecord.currentCount]
      omega
    · obtain ⟨_, _, _, ⟨-, empty, -⟩ | ⟨m, -, taken, -⟩⟩ := takeNext_spec check r.queue r.responses
      · exact empty
      · exact nomatch taken.symm.trans idle

/-- An answered request leaves one response in its place (R30). -/
theorem PortRecord.Sound.answered (h : r.Sound) (resp : Response) : (r.answered resp).Counted := by
  cases current : r.current with
  | none =>
    rw [PortRecord.answered, current]
    exact h.toCounted
  | some c =>
    have counted := h.counted
    rw [PortRecord.currentCount_of_some current] at counted
    rw [PortRecord.answered_of_busy current]
    refine ⟨?_, h.credits, h.idle⟩
    simp only [PortRecord.currentCount, List.length_append, List.length_singleton]
    simpa [Nat.add_assoc, Nat.add_comm 1] using counted

/-- A request accepted below 8 is one more in the queue and one more outstanding (R21). -/
theorem PortRecord.Sound.accepted (h : r.Sound) (active : r.state = .active) (room : r.outstanding < 8) :
    (r.accepted m).Counted := by
  have counted := h.counted
  have same : (r.accepted m).currentCount = r.currentCount := rfl
  refine ⟨?_, room, fun inactive => absurd active inactive⟩
  rw [same]
  simp only [PortRecord.accepted, List.length_append, List.length_singleton]
  omega

/-- A request that leaves is one response and one outstanding request less (R31). -/
theorem PortRecord.Sound.deliver (h : r.Sound) (active : r.state = .active) : r.deliver.Sound := by
  have inactive : ∀ {P : Prop}, r.deliver.state ≠ .active → P := fun other =>
    absurd (r.deliver_state.trans active) other
  cases linked : r.linkUp with
  | true =>
    rw [PortRecord.deliver_of_linkUp linked]
    exact h
  | false =>
    cases waiting : r.responses with
    | nil =>
      rw [PortRecord.deliver_of_nil waiting]
      exact h
    | cons resp rest =>
      have counted := h.counted
      have credits := h.credits
      rw [waiting, List.length_cons] at counted
      have delivered := PortRecord.deliver_of_cons linked waiting
      refine ⟨?_, ?_, ?_, inactive⟩ <;> rw [delivered]
      · simp only [PortRecord.currentCount] at counted ⊢
        omega
      · exact Nat.le_trans (Nat.sub_le _ _) credits
      · exact h.served

/-- A port that holds nothing is sound, in RESET, ABSENT or just ACTIVE. -/
theorem PortRecord.sound_of_empty (queue : r.queue = []) (current : r.current = none) (responses : r.responses = [])
    (outstanding : r.outstanding = 0) (idle : r.state ≠ .active → r.linkUp = false ∧ r.channel = none) : r.Sound where
  counted := by simp [PortRecord.currentCount, queue, current, responses, outstanding]
  credits := by simp [outstanding]
  served _ := queue
  idle inactive := ⟨outstanding, idle inactive⟩

theorem PortRecord.sound_portReset (r : PortRecord) : r.portReset.Sound :=
  PortRecord.sound_of_empty rfl rfl rfl rfl fun _ => ⟨rfl, rfl⟩

theorem PortRecord.sound_enterActive (r : PortRecord) : r.enterActive.Sound :=
  PortRecord.sound_of_empty rfl rfl rfl rfl fun inactive => absurd rfl inactive

theorem sound_portAtRise (present high : Bool) : (portAtRise present high).Sound := by
  cases present <;> cases high <;>
    exact PortRecord.sound_of_empty rfl rfl rfl rfl (by simp [portAtRise, PortRecord.inReset, PortRecord.enterActive])

theorem portAtRise_current (present high : Bool) : (portAtRise present high).current = none := by
  cases present <;> cases high <;> rfl

/-- A port with a current request is ACTIVE (R16). -/
theorem PortRecord.Sound.active_of_current (h : r.Sound) {c : CurrentRequest} (busy : r.current = some c) :
    r.state = .active := by
  refine Classical.byContradiction fun inactive => ?_
  have counted := h.counted
  rw [PortRecord.currentCount_of_some busy, (h.idle inactive).1] at counted
  omega

end

/-! ### What a change of the device state does to the checks (R26) -/

theorem State.portCheck_congr (device : t.control.device = s.control.device)
    (straps : t.control.straps = s.control.straps) : t.portCheck = s.portCheck := by
  simp only [State.portCheck, State.pageCount, State.size, device, straps]

/-- The kind of a request that passes the checks, and the verdict that is left to the other two. -/
theorem State.portCheck_eq_none (passed : s.portCheck m = none) :
    ∃ k, m.kind = some k ∧ ¬ m.Bad ∧ checkServed s.control.device s.size s.pageCount m k = none := by
  by_cases bad : m.Bad
  · exact nomatch (State.portCheck_of_bad bad).symm.trans passed
  · cases named : m.kind with
    | none => exact absurd (.inl named) bad
    | some k => exact ⟨k, rfl, bad, (State.portCheck_of_not_bad named bad).symm.trans passed⟩

/-- What a block outside RUN serves it serves in every device state. -/
theorem State.portCheck_outside_run (outside : s.control.device ≠ .run) (passed : s.portCheck m = none) (t : State) :
    t.portCheck m = none := by
  obtain ⟨k, named, good, served⟩ := State.portCheck_eq_none passed
  have free : k.needsRun = false := by
    refine Bool.eq_false_iff.mpr fun needs => ?_
    exact nomatch (checkServed_outside_run outside needs).symm.trans served
  rw [State.portCheck_of_not_bad named good, checkServed_of_other free]

/-! ### The four ports -/

theorem State.portsSound_of_empty (sound : ∀ p, (s.port p).Sound) (empty : ∀ p, (s.port p).current = none) :
    s.PortsSound := ⟨sound, fun p _ busy => nomatch (empty p).symm.trans busy⟩

theorem State.portsSound_coldReset (s : State) : s.coldReset.PortsSound := by
  refine State.portsSound_of_empty (fun p => ?_) fun p => ?_ <;> rw [State.coldReset_eq, State.port_cold]
  · exact PortRecord.sound_portReset .inReset
  · rfl

section
variable (hs : s.PortsSound)
include hs

/-- A step that leaves the ports and what their checks look at keeps them sound. -/
theorem State.PortsSound.of_blocks (ports : t.ports = s.ports) (device : t.control.device = s.control.device)
    (straps : t.control.straps = s.control.straps) : t.PortsSound where
  sound p := State.port_congr ports p ▸ hs.sound p
  checked p c busy := by
    rw [State.portCheck_congr device straps]
    exact hs.checked p c (State.port_congr ports p ▸ busy)

/-- Outside RUN the device state may change: whatever the ports serve there passes in every state (R26). -/
theorem State.PortsSound.of_device (ports : t.ports = s.ports) (outside : s.control.device ≠ .run) :
    t.PortsSound where
  sound p := State.port_congr ports p ▸ hs.sound p
  checked p c busy :=
    State.portCheck_outside_run outside (hs.checked p c (State.port_congr ports p ▸ busy)) t

theorem State.PortsSound.setPort {r : PortRecord} (sound : r.Sound)
    (checked : ∀ c, r.current = some c → s.portCheck c.msg = none) : (s.setPort p r).PortsSound where
  sound q := by
    by_cases same : q = p
    · subst same
      rwa [State.port_setPort_same]
    · rw [State.port_setPort_of_ne _ _ same]
      exact hs.sound q
  checked q c busy := by
    by_cases same : q = p
    · subst same
      rw [State.port_setPort_same] at busy
      exact checked c busy
    · rw [State.port_setPort_of_ne _ _ same] at busy
      exact hs.checked q c busy

/-- A record with the current request it had. -/
theorem State.PortsSound.setPort_of_current {r : PortRecord} (sound : r.Sound)
    (current : r.current = (s.port p).current) : (s.setPort p r).PortsSound :=
  hs.setPort sound fun c busy => hs.checked p c (current ▸ busy)

/-- A request that becomes current has passed the checks (R24). -/
theorem State.PortsSound.setPort_becomeCurrent {r : PortRecord} (counted : r.Counted)
    (checked : ∀ c, r.current = some c → s.portCheck c.msg = none) :
    (s.setPort p (r.becomeCurrent s.portCheck)).PortsSound := by
  refine hs.setPort counted.becomeCurrent fun c busy => ?_
  cases current : r.current with
  | some c' =>
    rw [PortRecord.becomeCurrent_of_busy current] at busy
    exact checked c busy
  | none =>
    rw [PortRecord.becomeCurrent_of_idle current] at busy
    exact (takeNext_current _ _ _ _ busy).1

theorem State.PortsSound.answer (resp : Response) : (s.answer p resp).PortsSound := by
  have answered := hs.setPort_becomeCurrent (p := p) ((hs.sound p).answered resp) fun c busy => by
    cases current : (s.port p).current with
    | none => simp [PortRecord.answered, current] at busy
    | some c' => simp [PortRecord.answered, current] at busy
  exact answered.of_blocks (s.answer_ports p resp) rfl rfl

theorem State.PortsSound.arrive (active : (s.port p).state = .active) : (s.arrive p m).PortsSound := by
  rcases Nat.lt_or_ge (s.port p).outstanding 8 with room | full
  · have counted : ((s.port p).accepted m).Counted := (hs.sound p).accepted active room
    have accepted := hs.setPort_becomeCurrent (p := p) counted fun c busy => hs.checked p c busy
    cases current : (s.port p).current with
    | some c =>
      rw [PortRecord.becomeCurrent_of_busy (r := (s.port p).accepted m) current] at accepted
      rw [State.arrive_of_busy room current]
      exact accepted
    | none =>
      rw [State.arrive_of_idle room current]
      refine accepted.of_blocks ?_ rfl rfl
      cases p <;> rfl
  · rw [State.arrive_of_full full]
    exact hs.of_blocks rfl rfl rfl

/-- A request that is granted is the one that was current (R28). -/
theorem State.PortsSound.toGranted (routed : s.Routed p m k) : (s.toGranted p m).PortsSound := by
  have sound := hs.sound p
  have stood := hs.of_blocks (t := s.setArbiter (s.arbiterAfter p)) rfl rfl rfl
  have counted := sound.counted
  rw [PortRecord.currentCount_of_some routed.1] at counted
  have passed : s.portCheck m = none := hs.checked p _ routed.1
  exact stood.setPort ⟨counted, sound.credits, fun idle => (nomatch idle), sound.idle⟩ fun c granted => by
    cases granted
    exact passed

theorem State.PortsSound.grantOf (routed : s.Routed p m k) : (s.grantOf p m k).PortsSound := by
  have granted := hs.toGranted routed
  unfold State.grantOf
  split
  case h_1 =>
    unfold State.grantLockedRead
    dsimp only
    split
    · exact granted.answer _
    · split
      · exact granted.answer _
      · exact granted.of_blocks rfl rfl rfl
  case h_2 =>
    unfold State.grantCondWrite
    dsimp only
    split
    · exact granted.answer _
    · split
      · exact granted.of_blocks rfl rfl rfl
      · exact granted.answer _
  case h_3 =>
    unfold State.grantPlain
    dsimp only
    split
    · exact granted.answer _
    · exact granted.of_blocks rfl rfl rfl

theorem State.PortsSound.giveAnswer {terms : PortTerms} (resp : Response) : (s.giveAnswer terms resp).PortsSound := by
  have sound := hs.sound terms.port
  unfold State.giveAnswer
  split
  · exact hs.setPort_of_current ⟨sound.counted, sound.credits, sound.served, sound.idle⟩ rfl
  · exact hs.answer _

theorem State.PortsSound.complete (o : Operation) : (s.complete o).PortsSound := by
  have reported : ((s.landWrite o).reportOf o).PortsSound := hs.of_blocks (by simp) (by simp) (by simp)
  have served : (((s.landWrite o).reportOf o).servePort o).PortsSound := by
    unfold State.servePort
    split
    next terms _ =>
      have reserved := reported.of_blocks (t := ((s.landWrite o).reportOf o).reserveOf o terms) (by simp) (by simp) (by simp)
      exact reserved.giveAnswer _
    all_goals exact reported
  exact served.of_blocks rfl rfl rfl

theorem State.PortsSound.advanceClear : s.advanceClear.PortsSound := by
  unfold State.advanceClear
  split
  · exact hs
  · split
    · exact hs.of_blocks rfl rfl rfl
    next n rest _ _ =>
      by_cases ends : rest = [] ∧ s.control.device = .init
      · rw [State.finishPage_of_ends ends.1 ends.2]
        exact hs.of_device rfl (by simp [ends.2])
      · rw [State.finishPage_of_stays (Decidable.not_and_iff_not_or_not.mp ends)]
        exact hs.of_blocks rfl rfl rfl

theorem State.PortsSound.portReset : (s.portReset p).PortsSound := by
  have control : (s.portReset p).control = s.control := State.changesOnly_portReset s .control (by simp)
  exact (hs.setPort (p := p) (PortRecord.sound_portReset _) fun _ busy => nomatch busy).of_blocks (s.portReset_ports)
    (congrArg _ control) (congrArg _ control)

theorem State.PortsSound.enterActive : (s.enterActive p).PortsSound :=
  (hs.setPort (p := p) (PortRecord.sound_enterActive _) fun _ busy => nomatch busy).of_blocks rfl rfl rfl

theorem State.PortsSound.writeLostCount : (s.writeLostCount p m).PortsSound := by
  have cleared := hs.of_blocks (t := s.setLog { s.log with lost := 0 }) rfl rfl rfl
  unfold State.writeLostCount
  split
  · exact cleared.answer _
  · exact hs.answer _

theorem State.PortsSound.writeItem : (s.writeItem p m).PortsSound := by
  unfold State.writeItem
  split
  · exact hs.answer _
  · split
    · exact hs.answer _
    next items _ =>
      have written := hs.of_blocks (t := s.setControl { s.control with items := items }) rfl rfl rfl
      exact written.answer _

theorem portGrant_portsSound {i : Instr} (grant : (i, k) ∈ portGrants p) : Answers (exec i s) State.PortsSound := by
  rw [exec_portGrant grant, answers_next]
  cases granted : s.grantable p k with
  | none => exact hs
  | some m =>
    unfold State.grantable at granted
    split at granted
    · exact hs.grantOf (s.routed_some granted)
    · cases granted

/-- A judged request keeps the ports sound when its success leaves them and their checks (R60). -/
theorem answers_judged_portsSound {verdict : Option Status} (passed : t.PortsSound) :
    Answers (match verdict with | some st => .next (s.answerStatus p m st) | none => .next (t.answerStatus p m .ok))
      State.PortsSound :=
  answers_judged (fun _ => hs.answer _) (passed.answer _)

/-! ### Every command, and every step -/

theorem execStart_portsSound : Answers (execStart p s) State.PortsSound := by
  refine answers_serving hs fun m => ?_
  cases device : s.control.device with
  | init => exact (answers_next _).mpr (hs.answer _)
  | setup =>
    have running := hs.of_device (t := s.enterRun p) rfl (by simp [device])
    exact (answers_next _).mpr (running.answer _)
  | run => exact (answers_next _).mpr (hs.answer _)

theorem execLinkUpDelivered_portsSound : Answers (execLinkUpDelivered p s) State.PortsSound := by
  unfold execLinkUpDelivered
  split
  next delivers =>
    obtain ⟨active, -⟩ := Bool.and_eq_true_iff.mp delivers
    have sound := hs.sound p
    exact (answers_next _).mpr (hs.setPort_of_current ⟨sound.counted, sound.credits, sound.served,
      fun inactive => absurd (State.isActive_iff.mp active) inactive⟩ rfl)
  next => exact (answers_next _).mpr hs

theorem execRequestArrives_portsSound (w0 w1 w2 : Word) : Answers (execRequestArrives p w0 w1 w2 s) State.PortsSound := by
  unfold execRequestArrives
  split
  next active => exact (answers_next _).mpr (hs.arrive (State.isActive_iff.mp active))
  next => exact (answers_next _).mpr hs

theorem execResponseDelivered_portsSound : Answers (execResponseDelivered p s) State.PortsSound := by
  unfold execResponseDelivered
  split
  next active =>
    have delivered := (hs.sound p).deliver (State.isActive_iff.mp active)
    refine (answers_next _).mpr (hs.setPort_of_current delivered ?_)
    unfold PortRecord.deliver
    split <;> rfl
  next => exact (answers_next _).mpr hs

theorem execNrstRises_portsSound (msize : BitVec 2) (pen : PortSet) :
    Answers (execNrstRises msize pen s) State.PortsSound := by
  refine answers_ite hs (State.portsSound_of_empty (fun p => ?_) fun p => ?_) <;> rw [State.port_afterRise]
  · exact sound_portAtRise _ _
  · exact portAtRise_current _ _

/-- Every command keeps the ports sound. -/
theorem exec_portsSound (i : Instr) : Answers (exec i s) State.PortsSound := by
  cases i with
  | nrstFalls => exact (answers_next _).mpr s.portsSound_coldReset
  | nrstRises msize pen => exact execNrstRises_portsSound hs msize pen
  | prstFalls p =>
    have fallen := hs.of_blocks (t := s.setPrst p false) rfl rfl rfl
    exact answers_ite fallen.portReset fallen
  | prstRises p =>
    have risen := hs.of_blocks (t := s.setPrst p true) rfl rfl rfl
    exact answers_ite risen.enterActive risen
  | linkUpDelivered p => exact execLinkUpDelivered_portsSound hs
  | requestArrives p w0 w1 w2 => exact execRequestArrives_portsSound hs w0 w1 w2
  | responseDelivered p => exact execResponseDelivered_portsSound hs
  | read p => exact portGrant_portsSound hs (p := p) (k := .read) (by simp [portGrants])
  | write p => exact portGrant_portsSound hs (p := p) (k := .write) (by simp [portGrants])
  | mergeWrite p => exact portGrant_portsSound hs (p := p) (k := .mergeWrite) (by simp [portGrants])
  | lockedRead p => exact portGrant_portsSound hs (p := p) (k := .lockedRead) (by simp [portGrants])
  | condWrite p => exact portGrant_portsSound hs (p := p) (k := .condWrite) (by simp [portGrants])
  | refreshGrant | clearGrant | scrubGrant | scrubIntervalRunsOut | reservationLifetimeRunsOut =>
    exact answers_ite (hs.of_blocks rfl rfl rfl) hs
  | readingEnds flips =>
    change Answers (execReadingEnds flips s) _
    unfold execReadingEnds
    split
    · exact (answers_next _).mpr hs
    · split
      · exact (answers_next _).mpr hs
      · exact (answers_next _).mpr (hs.of_blocks rfl rfl rfl)
  | readOpCompletes | storeCompletes | checkedStoreCompletes | mergeCompletes =>
    exact answers_completion hs hs.complete
  | refreshCompletes | scrubCompletes => exact answers_completion hs fun o => (hs.complete o).of_blocks rfl rfl rfl
  | clearCompletes => exact answers_completion hs fun o => (hs.complete o).advanceClear
  | refreshIntervalRunsOut =>
    refine answers_ite ?_ hs
    split <;> exact hs.of_blocks rfl rfl rfl
  | offerLifetimeRunsOut page =>
    change Answers (execOfferLifetimeRunsOut page s) _
    unfold execOfferLifetimeRunsOut
    split
    · exact (answers_next _).mpr hs
    · exact (answers_next _).mpr (hs.of_blocks rfl rfl rfl)
  | unlock p =>
    refine answers_serving hs fun m => ?_
    have dropped := hs.of_blocks (t := s.dropReservations (Reservation.isOn p m.addr)) rfl rfl rfl
    exact answers_ite (dropped.answer _) (hs.answer _)
  | claim | revoke | withdraw | offer =>
    exact answers_serving hs fun m => answers_judged_portsSound hs (hs.of_blocks rfl rfl rfl)
  | grant | release =>
    exact answers_serving hs fun m => answers_judged_portsSound hs (hs.of_blocks (by simp) (by simp) (by simp))
  | accept p =>
    refine answers_serving hs fun m => ?_
    split
    · exact (answers_next _).mpr (hs.answer _)
    next o _ =>
      have taken := hs.of_blocks (t := s.takeOver m.page p o) rfl rfl rfl
      exact (answers_next _).mpr (taken.answer _)
  | pageQuery p => exact answers_serving hs fun m => (answers_next _).mpr (hs.answer _)
  | fetchNotice p =>
    refine answers_serving hs fun m => ?_
    split
    · exact (answers_next _).mpr (hs.answer _)
    next i records _ =>
      have fetched := hs.of_blocks (t := s.setLog (s.log.fetched p records)) rfl rfl rfl
      exact (answers_next _).mpr (fetched.answer _)
  | ctlRead p => exact answers_serving hs fun m => by split <;> exact (answers_next _).mpr (hs.answer _)
  | ctlWrite p =>
    refine answers_serving hs fun m => ?_
    split
    · exact (answers_next _).mpr hs.writeLostCount
    · exact answers_ite hs.writeItem (hs.answer _)
  | lostCount p => exact answers_serving hs fun m => answers_ite hs.writeLostCount hs
  | start p => exact execStart_portsSound hs
  | noticeRecordCreate asker =>
    change Answers (execNoticeRecordCreate asker s) _
    unfold execNoticeRecordCreate
    split
    · exact (answers_next _).mpr hs
    · exact (answers_next _).mpr (hs.of_blocks rfl rfl rfl)

theorem step_portsSound : Answers (step s) State.PortsSound := by
  unfold step
  split
  · exact (answers_next _).mpr hs
  next c rest _ => exact exec_portsSound (s := s.withPending rest) (hs.of_blocks rfl rfl rfl) c

end

/-- Settles O58: a step is the front command executed on a state with the same ports, and every command keeps them sound,
whether it queues, grants, answers or delivers, resets them, or changes the device state their checks look at. -/
theorem portsStaySound : Obligations.PortsStaySound := fun _ t hs ht => step_portsSound hs t ht

end Sys2Proof.Machine
end

section
/-! PROOF. What each part of the invariant looks at: a step keeps it that leaves those blocks, or changes them in the ways
the part allows. -/
namespace Sys2Proof.Machine

variable {s t : State} {p q : Port} {e : PageEntry} {n : Nat} {l : List Block}

/-! ### Blocks a part looks at -/

/-- None of the blocks in one list is in another. -/
abbrev Apart (looked changed : List Block) : Prop := ∀ b ∈ looked, b ∉ changed

theorem State.ChangesOnly.entry_eq (frame : s.ChangesOnly t l) (apart : .entries ∉ l) (n : Nat) :
    t.entry n = s.entry n := State.entry_congr (frame .entries apart) n

theorem State.ChangesOnly.port_eq (frame : s.ChangesOnly t l) (apart : .ports ∉ l) (q : Port) : t.port q = s.port q :=
  State.port_congr (frame .ports apart) q

theorem State.ChangesOnly.size_eq (frame : s.ChangesOnly t l) (apart : .control ∉ l) : t.size = s.size := by
  rw [State.size, frame .control apart, State.size]

/-! ### The pins (R16, R17) -/

theorem State.PinsSound.of_states (h : s.PinsSound) (pins : t.pins = s.pins)
    (straps : t.control.straps = s.control.straps) (states : ∀ q, (t.port q).state = (s.port q).state) :
    t.PinsSound := by
  intro high q
  rw [states, straps, pins]
  exact h (pins ▸ high) q

/-! ### The page entries (R40 to R42) -/

/-- What holds of every page entry holds of the entry of every page, and the other way round. -/
theorem State.forall_mem_entries_iff {P : PageEntry → Prop} :
    (∀ e ∈ s.pageMap.entries, P e) ↔ ∀ n < s.pageMap.entries.length, P (s.entry n) := by
  have at_ (n : Nat) (hn : n < s.pageMap.entries.length) : s.entry n = s.pageMap.entries[n] := by
    simp [State.entry, hn]
  constructor
  · intro all n hn
    rw [at_ n hn]
    exact all _ (List.getElem_mem hn)
  · intro all e he
    obtain ⟨n, hn, rfl⟩ := List.getElem_of_mem he
    rw [← at_ n hn]
    exact all n hn

/-- An entry looks at the ports only for those that are ABSENT. -/
theorem PageEntry.Sound.of_present (h : e.Sound s)
    (present : ∀ q, (s.port q).state ≠ .absent → (t.port q).state ≠ .absent) : e.Sound t :=
  { h with present := fun q named => present q (h.present q named) }

theorem PageEntry.Sound.of_states (h : e.Sound s) (states : ∀ q, (t.port q).state = (s.port q).state) : e.Sound t :=
  h.of_present fun q there => by rwa [states]

theorem State.EntriesSound.entry (h : s.EntriesSound) (inMap : n < s.pageMap.entries.length) : (s.entry n).Sound s :=
  State.forall_mem_entries_iff.mp h.sound n inMap

/-- The entries stay sound when each does and their number stands. -/
theorem State.EntriesSound.of_entries (h : s.EntriesSound) (pins : t.pins.nrst = s.pins.nrst)
    (straps : t.control.straps = s.control.straps) (length : t.pageMap.entries.length = s.pageMap.entries.length)
    (sound : ∀ n < s.pageMap.entries.length, (s.entry n).Sound s → (t.entry n).Sound t) : t.EntriesSound where
  count high := by
    have pages : t.pageCount = s.pageCount := by simp only [State.pageCount, State.size, straps]
    rw [length, pages]
    exact h.count (pins ▸ high)
  sound := State.forall_mem_entries_iff.mpr fun n inMap =>
    sound n (length ▸ inMap) (h.entry (length ▸ inMap))

/-- The entries themselves stand, and no port becomes ABSENT. -/
theorem State.EntriesSound.of_present (h : s.EntriesSound) (pins : t.pins.nrst = s.pins.nrst)
    (straps : t.control.straps = s.control.straps) (entries : t.pageMap.entries = s.pageMap.entries)
    (present : ∀ q, (s.port q).state ≠ .absent → (t.port q).state ≠ .absent) : t.EntriesSound :=
  h.of_entries pins straps (congrArg _ entries) fun n _ sound => by
    rw [State.entry_congr entries]
    exact sound.of_present present

theorem State.EntriesSound.of_frame (h : s.EntriesSound) (frame : s.ChangesOnly t l)
    (apart : Apart [.pins, .ports, .entries, .control] l) : t.EntriesSound :=
  h.of_present (congrArg _ (frame .pins (apart _ (by decide)))) (congrArg _ (frame .control (apart _ (by decide))))
    (frame .entries (apart _ (by decide))) fun q there => by rwa [frame.port_eq (apart _ (by decide))]

/-! ### The offer list (R71) -/

theorem State.OffersSound.of_entries (h : s.OffersSound) (offers : t.pageMap.offers = s.pageMap.offers)
    (offered : ∀ n, (t.entry n).state = .offered ↔ (s.entry n).state = .offered)
    (owner : ∀ n, (s.entry n).state = .offered → (t.entry n).owner = (s.entry n).owner)
    (active : ∀ q, (s.port q).state = .active → (t.port q).state = .active) : t.OffersSound where
  room := by rw [offers]; exact h.room
  distinct := by rw [offers]; exact h.distinct
  offered n := by rw [offered, offers]; exact h.offered n
  owner o stands := by
    rw [offers] at stands
    rw [owner _ ((h.offered _).mpr (List.mem_map_of_mem stands))]
    exact h.owner o stands
  parties o stands := by
    rw [offers] at stands
    obtain ⟨other, giver, taker⟩ := h.parties o stands
    exact ⟨other, active _ giver, active _ taker⟩

theorem State.OffersSound.of_states (h : s.OffersSound) (offers : t.pageMap.offers = s.pageMap.offers)
    (entries : t.pageMap.entries = s.pageMap.entries)
    (active : ∀ q, (s.port q).state = .active → (t.port q).state = .active) : t.OffersSound :=
  h.of_entries offers (fun n => by rw [State.entry_congr entries]) (fun n _ => by rw [State.entry_congr entries]) active

theorem State.OffersSound.of_frame (h : s.OffersSound) (frame : s.ChangesOnly t l)
    (apart : Apart [.ports, .entries, .offers] l) : t.OffersSound :=
  h.of_states (frame .offers (apart _ (by decide))) (frame .entries (apart _ (by decide))) fun q active => by
    rwa [frame.port_eq (apart _ (by decide))]

/-- The offer list stands, and the entry of one page changes that is neither OFFERED nor becomes so, or stays OFFERED by
its owner. -/
theorem State.OffersSound.of_entryBecomes (h : s.OffersSound) (offers : t.pageMap.offers = s.pageMap.offers)
    (becomes : s.EntryBecomes t n e) (offered : e.state = .offered ↔ (s.entry n).state = .offered)
    (owner : (s.entry n).state = .offered → e.owner = (s.entry n).owner) (ports : t.ports = s.ports) :
    t.OffersSound := by
  obtain ⟨here, others, -⟩ := becomes
  refine h.of_entries offers (fun k => ?_) (fun k => ?_) fun q active => by rwa [State.port_congr ports]
  · by_cases same : k = n
    · rw [same, here, offered]
    · rw [others k same]
  · by_cases same : k = n
    · rw [same, here]
      exact owner
    · rw [others k same]
      exact fun _ => rfl

/-! ### The reservation table (R83) -/

/-- Reservations that stay do so while their ports stay ACTIVE and may write. -/
theorem State.ReservationsSound.of_sublist (h : s.ReservationsSound)
    (sub : t.table.entries.Sublist s.table.entries) (straps : t.control.straps = s.control.straps)
    (active : ∀ r ∈ t.table.entries, (s.port r.port).state = .active → (t.port r.port).state = .active)
    (writable : ∀ r ∈ t.table.entries, (s.entry (pageOf r.addr)).mayWrite r.port = true →
      (t.entry (pageOf r.addr)).mayWrite r.port = true) : t.ReservationsSound where
  perPort p := Nat.le_trans (sub.filter _).length_le (h.perPort p)
  distinct := h.distinct.sublist (sub.map _)
  inRange r stands := by
    rw [State.size, straps]
    exact h.inRange r (sub.subset stands)
  active r stands := active r stands (h.active r (sub.subset stands))
  writable r stands := writable r stands (h.writable r (sub.subset stands))

theorem State.ReservationsSound.of_states (h : s.ReservationsSound) (table : t.table.entries = s.table.entries)
    (entries : t.pageMap.entries = s.pageMap.entries) (straps : t.control.straps = s.control.straps)
    (active : ∀ q, (s.port q).state = .active → (t.port q).state = .active) : t.ReservationsSound :=
  h.of_sublist (by rw [table]) straps (fun r _ => active r.port) fun r _ may => by rwa [State.entry_congr entries]

theorem State.ReservationsSound.of_frame (h : s.ReservationsSound) (frame : s.ChangesOnly t l)
    (apart : Apart [.ports, .entries, .reservations, .control] l) : t.ReservationsSound :=
  h.of_states (frame .reservations (apart _ (by decide))) (frame .entries (apart _ (by decide)))
    (congrArg _ (frame .control (apart _ (by decide)))) fun q active => by rwa [frame.port_eq (apart _ (by decide))]

/-! ### The parking marks (R84 to R87) -/

theorem State.ParkingSound.of_frame (h : s.ParkingSound) (frame : s.ChangesOnly t l)
    (apart : Apart [.ports, .reservations, .parking] l) : t.ParkingSound := by
  refine State.parkingSound_iff.mpr fun q => ?_
  rw [frame .parking (apart _ (by decide)), frame .reservations (apart _ (by decide)),
    frame.port_eq (apart _ (by decide))]
  exact State.parkingSound_iff.mp h q

/-! ### The operation in flight (R114, R115) -/

/-- What the operation in flight looks at outside its port: the row and the word of its engine, the device in RUN, the
configured size, and for a LOCKED-READ the room for its entry. -/
structure State.Follows (s t : State) : Prop where
  row : t.refresh.row = s.refresh.row
  owed : 1 ≤ s.refresh.owed → 1 ≤ t.refresh.owed
  queue : s.clear.queue ≠ [] → t.clear.queue ≠ [] ∧ t.clear.nextWord = s.clear.nextWord
  position : s.control.device = .run → t.scrub.position = s.scrub.position
  device : s.control.device = .run → t.control.device = .run
  straps : t.control.straps = s.control.straps
  room : ∀ p a, heldByOther s.table.entries p a = false → noRoom s.table.entries p a = false →
    heldByOther t.table.entries p a = false ∧ noRoom t.table.entries p a = false

theorem State.ChangesOnly.follows (frame : s.ChangesOnly t l)
    (apart : Apart [.refresh, .clear, .scrub, .control, .reservations] l) : s.Follows t where
  row := by rw [frame .refresh (apart _ (by decide))]
  owed owes := by rwa [frame .refresh (apart _ (by decide))]
  queue queued := by
    rw [frame .clear (apart _ (by decide))]
    exact ⟨queued, rfl⟩
  position _ := by rw [frame .scrub (apart _ (by decide))]
  device run := by rwa [frame .control (apart _ (by decide))]
  straps := by rw [frame .control (apart _ (by decide))]
  room p a alone room := by
    rw [frame .reservations (apart _ (by decide))]
    exact ⟨alone, room⟩

theorem State.Follows.refl (s : State) : s.Follows s := (State.ChangesOnly.refl s []).follows (by decide)

/-- Reservations that go make room: at most the port's own entry on the word goes, and then one of its two places is
free. -/
theorem room_of_sublist {entries left : List Reservation} {a : Nat} (sub : left.Sublist entries)
    (perPort : (reservationsOf entries p).length ≤ 2) (alone : heldByOther entries p a = false)
    (room : noRoom entries p a = false) : heldByOther left p a = false ∧ noRoom left p a = false := by
  constructor
  · refine Bool.eq_false_iff.mpr fun held => ?_
    obtain ⟨r, stands, other⟩ := List.any_eq_true.mp held
    exact Bool.eq_false_iff.mp alone (List.any_eq_true.mpr ⟨r, sub.subset stands, other⟩)
  · have fewer : (reservationsOf left p).Sublist (reservationsOf entries p) := sub.filter _
    refine (noRoom_eq_false_iff _ _ _).mpr ?_
    rcases Nat.lt_or_ge (reservationsOf left p).length 2 with free | full
    · exact .inl free
    · have same : reservationsOf left p = reservationsOf entries p :=
        fewer.eq_of_length (Nat.le_antisymm fewer.length_le (Nat.le_trans perPort full))
      rcases (noRoom_eq_false_iff _ _ _).mp room with free | held
      · exact .inl (same ▸ free)
      · obtain ⟨r, stands, onWord, own⟩ := heldBy_iff.mp held
        have kept : r ∈ reservationsOf left p := by
          rw [same]
          exact List.mem_filter.mpr ⟨stands, decide_eq_true own⟩
        exact .inr (heldBy_iff.mpr ⟨r, (List.mem_filter.mp kept).1, onWord, own⟩)

theorem PortRecord.isGranted_iff {r : PortRecord} :
    r.isGranted = true ↔ ∃ m, r.current = some { msg := m, phase := .granted } := by
  cases current : r.current with
  | none => simp [PortRecord.isGranted, current]
  | some c =>
    obtain ⟨m, phase⟩ := c
    cases phase <;> simp [PortRecord.isGranted, current]

/-- The operation in flight stays sound while what it looks at stands, and its port, unless it has gained the orphan
mark, still has its request in GRANTED. -/
theorem Operation.ServedSound.of_follows {o : Operation} (h : o.ServedSound s) (follows : s.Follows t)
    (current : ∀ terms, o.served = .port terms → (t.port terms.port).orphan = false →
      (s.port terms.port).orphan = false ∧ (t.port terms.port).current = (s.port terms.port).current) :
    o.ServedSound t := by
  unfold Operation.ServedSound at h ⊢
  cases served : o.served with
  | port terms =>
    rw [served] at h
    dsimp only at h ⊢
    refine ⟨h.kind, h.operation, h.target, ?_, follows.device h.running, fun answered => ?_, fun locked => ?_⟩
    · rw [State.size, follows.straps]
      exact h.inRange
    · obtain ⟨before, same⟩ := current terms served answered
      rw [same]
      exact h.current before
    · obtain ⟨alone, room⟩ := h.room locked
      exact follows.room _ _ alone room
  | refreshController =>
    rw [served] at h
    obtain ⟨kind, target, owes⟩ := h
    exact ⟨kind, by rw [follows.row]; exact target, follows.owed owes⟩
  | clearEngine =>
    rw [served] at h
    obtain ⟨kind, target, queued, settled⟩ := h
    obtain ⟨still, word⟩ := follows.queue queued
    exact ⟨kind, by rw [word]; exact target, still, settled⟩
  | scrubEngine =>
    rw [served] at h
    obtain ⟨kind, target, run⟩ := h
    exact ⟨kind, by rw [follows.position run]; exact target, follows.device run⟩

/-- The same of the whole sequencer, with the ports that are GRANTED or have the orphan mark. -/
theorem State.SequencerSound.of_follows (h : s.SequencerSound) (flight : t.sequencer = s.sequencer)
    (follows : s.Follows t)
    (current : ∀ q, s.servesPort q → (t.port q).orphan = false →
      (s.port q).orphan = false ∧ (t.port q).current = (s.port q).current)
    (granted : ∀ q, (t.port q).isGranted = true → (s.port q).isGranted = true ∧ (t.port q).orphan = (s.port q).orphan)
    (orphan : ∀ q, (t.port q).orphan = true → (s.port q).orphan = true ∨ (s.port q).isGranted = true) :
    t.SequencerSound := by
  have serves {q : Port} (served : s.servesPort q) : t.servesPort q := by
    unfold State.servesPort
    rw [flight]
    exact served
  refine ⟨fun o inFlight => h.phase o (flight ▸ inFlight), fun o inFlight => ?_, fun q isGranted => ?_,
    fun q marked => ?_⟩
  · rw [flight] at inFlight
    exact (h.served o inFlight).of_follows follows fun terms served =>
      current _ ⟨o, terms, inFlight, served, rfl⟩
  · obtain ⟨before, same⟩ := granted q isGranted
    obtain ⟨served, unmarked⟩ := h.granted q before
    exact ⟨serves served, same.trans unmarked⟩
  · exact serves ((orphan q marked).elim (h.orphan q) fun isGranted => (h.granted q isGranted).1)

theorem State.SequencerSound.of_ports (h : s.SequencerSound) (flight : t.sequencer = s.sequencer)
    (follows : s.Follows t) (ports : t.ports = s.ports) : t.SequencerSound := by
  have port (q : Port) : t.port q = s.port q := State.port_congr ports q
  refine h.of_follows flight follows (fun q _ unmarked => ?_) (fun q granted => ?_) fun q marked => ?_
  · rw [port] at unmarked ⊢
    exact ⟨unmarked, rfl⟩
  · rw [port] at granted ⊢
    exact ⟨granted, rfl⟩
  · rw [port] at marked
    exact .inl marked

theorem State.SequencerSound.of_frame (h : s.SequencerSound) (frame : s.ChangesOnly t l)
    (apart : Apart [.ports, .sequencer, .refresh, .clear, .scrub, .control, .reservations] l) : t.SequencerSound :=
  h.of_ports (frame .sequencer (apart _ (by decide)))
    (frame.follows fun b looked => apart b (by simp only [List.mem_cons] at looked ⊢; tauto))
    (frame .ports (apart _ (by decide)))

/-! ### The clear engine and the INIT clear (R140, R145) -/

theorem State.ClearSound.of_entries (h : s.ClearSound) (clear : t.clear = s.clear)
    (length : t.pageMap.entries.length = s.pageMap.entries.length)
    (clearing : ∀ n < s.pageMap.entries.length, (t.entry n).state = .clearing ↔ (s.entry n).state = .clearing) :
    t.ClearSound where
  distinct := by rw [clear]; exact h.distinct
  exact n := by
    rw [clear, length, h.exact n]
    exact and_congr_right fun inMap => (clearing n inMap).symm
  progress := by rw [clear]; exact h.progress
  empty := by rw [clear]; exact h.empty

theorem State.ClearSound.of_frame (h : s.ClearSound) (frame : s.ChangesOnly t l) (apart : Apart [.entries, .clear] l) :
    t.ClearSound :=
  h.of_entries (frame .clear (apart _ (by decide))) (congrArg _ (frame .entries (apart _ (by decide)))) fun n _ => by
    rw [frame.entry_eq (apart _ (by decide))]

theorem State.ClearSound.of_entryBecomes (h : s.ClearSound) (clear : t.clear = s.clear) (becomes : s.EntryBecomes t n e)
    (clearing : e.state = .clearing ↔ (s.entry n).state = .clearing) : t.ClearSound := by
  obtain ⟨here, others, length⟩ := becomes
  refine h.of_entries clear length fun k _ => ?_
  by_cases same : k = n
  · rw [same, here, clearing]
  · rw [others k same]

theorem State.InitClearSound.of_run (run : t.control.device = .run) : t.InitClearSound :=
  ⟨fun init => (nomatch run.symm.trans init), fun setup => (nomatch run.symm.trans setup)⟩

theorem State.InitClearSound.of_blocks (h : s.InitClearSound) (device : t.control.device = s.control.device)
    (straps : t.control.straps = s.control.straps) (nrst : t.pins.nrst = s.pins.nrst) (clear : t.clear = s.clear)
    (array : t.array = s.array) : t.InitClearSound := by
  have size : t.size = s.size := by rw [State.size, straps, State.size]
  refine ⟨fun init high => ?_, fun setup => ?_⟩
  · rw [State.pageCount, size, clear, array]
    exact h.clearing (device ▸ init) (nrst ▸ high)
  · rw [size, array]
    exact h.cleared (device ▸ setup)

theorem State.InitClearSound.of_frame (h : s.InitClearSound) (frame : s.ChangesOnly t l)
    (apart : Apart [.pins, .control, .clear, .array] l) : t.InitClearSound :=
  have control := frame .control (apart _ (by decide))
  h.of_blocks (congrArg _ control) (congrArg _ control) (congrArg _ (frame .pins (apart _ (by decide))))
    (frame .clear (apart _ (by decide))) (frame .array (apart _ (by decide)))

/-! ### Before RUN (R57, R71, R103, R147) -/

theorem State.BeforeRunSound.of_run (run : t.control.device = .run) (position : t.scrub.position < t.size) :
    t.BeforeRunSound :=
  ⟨fun outside => absurd run outside, fun setup => (nomatch run.symm.trans setup), position⟩

theorem State.BeforeRunSound.of_blocks (h : s.BeforeRunSound) (device : t.control.device = s.control.device)
    (straps : t.control.straps = s.control.straps) (scrub : t.scrub = s.scrub)
    (outside : s.control.device ≠ .run → t.pageMap = s.pageMap ∧ t.table.entries = s.table.entries ∧ t.clear = s.clear) :
    t.BeforeRunSound := by
  refine ⟨fun notRun => ?_, fun setup => ?_, ?_⟩
  · rw [device] at notRun
    obtain ⟨pageMap, table, -⟩ := outside notRun
    rw [pageMap, table, scrub]
    exact h.quiet notRun
  · rw [device] at setup
    obtain ⟨-, -, clear⟩ := outside (by simp [setup])
    rw [clear]
    exact h.setup setup
  · rw [scrub, State.size, straps]
    exact h.position

theorem State.ChangesOnly.pageMap_eq (frame : s.ChangesOnly t l) (apart : Apart [.entries, .offers] l) :
    t.pageMap = s.pageMap := by
  have entries : t.pageMap.entries = s.pageMap.entries := frame .entries (apart _ (by decide))
  have offers : t.pageMap.offers = s.pageMap.offers := frame .offers (apart _ (by decide))
  cases ht : t.pageMap
  cases hs : s.pageMap
  simp_all

theorem State.BeforeRunSound.of_frame (h : s.BeforeRunSound) (frame : s.ChangesOnly t l)
    (apart : Apart [.entries, .offers, .reservations, .clear, .scrub, .control] l) : t.BeforeRunSound :=
  have control := frame .control (apart _ (by decide))
  h.of_blocks (congrArg _ control) (congrArg _ control) (frame .scrub (apart _ (by decide))) fun _ =>
    ⟨frame.pageMap_eq fun b looked => apart b (by simp only [List.mem_cons] at looked ⊢; tauto),
      frame .reservations (apart _ (by decide)), frame .clear (apart _ (by decide))⟩

end Sys2Proof.Machine
end

section
/-! PROOF. The invariant of the part with NRST high, and the operations on channels, answers and reservations that every
block shares. -/
namespace Sys2Proof.Machine

variable {s t : State} {p q : Port} {m : Request} {k : RequestKind} {r : PortRecord} {l : List Block}

/-- The parts of the invariant that O59 and O60 speak of, with NRST high. -/
structure State.Live (s : State) : Prop where
  high : s.pins.nrst = true
  pins : s.PinsSound
  entries : s.EntriesSound
  offers : s.OffersSound
  reservations : s.ReservationsSound
  parking : s.ParkingSound
  sequencer : s.SequencerSound
  clear : s.ClearSound
  items : s.control.items.Sound
  beforeRun : s.BeforeRunSound
  initClear : s.InitClearSound

theorem State.Inv.live (h : s.Inv) (high : s.pins.nrst = true) : s.Live :=
  { h with high := high }

theorem Apart.mono {few many : List Block} (apart : Apart many l) (sub : few ⊆ many) : Apart few l :=
  fun b looked => apart b (sub looked)

/-- The blocks that the invariant looks at. -/
abbrev liveBlocks : List Block :=
  [.pins, .ports, .entries, .offers, .reservations, .parking, .sequencer, .refresh, .clear, .scrub, .control, .array]

/-- The arbiter, the log and the model's own counter and queue are nothing to the invariant. -/
theorem State.Live.of_frame (hs : s.Live) (frame : s.ChangesOnly t l) (apart : Apart liveBlocks l) : t.Live :=
  have pins := frame .pins (apart _ (by decide))
  have control := frame .control (apart _ (by decide))
  { high := (congrArg _ pins).trans hs.high
    pins := hs.pins.of_states pins (congrArg _ control) fun q =>
      congrArg _ (frame.port_eq (apart _ (by decide)) q)
    entries := hs.entries.of_frame frame (apart.mono (by decide))
    offers := hs.offers.of_frame frame (apart.mono (by decide))
    reservations := hs.reservations.of_frame frame (apart.mono (by decide))
    parking := hs.parking.of_frame frame (apart.mono (by decide))
    sequencer := hs.sequencer.of_frame frame (apart.mono (by decide))
    clear := hs.clear.of_frame frame (apart.mono (by decide))
    items := by rw [control]; exact hs.items
    beforeRun := hs.beforeRun.of_frame frame (apart.mono (by decide))
    initClear := hs.initClear.of_frame frame (apart.mono (by decide)) }

/-- While no port changes its state, what a step does to the requests in the ports, to the sequencer and to the array asks
for four parts of the invariant. -/
theorem State.Live.of_states (hs : s.Live)
    (frame : s.ChangesOnly t [.ports, .parking, .arbiter, .sequencer, .refresh, .array])
    (states : ∀ q, (t.port q).state = (s.port q).state) (parking : t.ParkingSound) (sequencer : t.SequencerSound)
    (initClear : t.InitClearSound) : t.Live :=
  have active (q : Port) (active : (s.port q).state = .active) : (t.port q).state = .active :=
    (states q).trans active
  have pins := frame .pins (by decide)
  have control := frame .control (by decide)
  { high := (congrArg _ pins).trans hs.high
    pins := hs.pins.of_states pins (congrArg _ control) states
    entries := hs.entries.of_present (congrArg _ pins) (congrArg _ control) (frame .entries (by decide))
      fun q there => by rwa [states q]
    offers := hs.offers.of_states (frame .offers (by decide)) (frame .entries (by decide)) active
    reservations := hs.reservations.of_states (frame .reservations (by decide)) (frame .entries (by decide))
      (congrArg _ control) active
    parking := parking
    sequencer := sequencer
    clear := hs.clear.of_frame frame (by decide)
    items := by rw [control]; exact hs.items
    beforeRun := hs.beforeRun.of_frame frame (by decide)
    initClear := initClear }

/-! ### Requests move through a port (R20 to R24, R30, R31) -/

/-- No port changes its state, its orphan mark or a request in GRANTED, and the parking marks are right. -/
structure State.PortsMove (s t : State) : Prop where
  frame : s.ChangesOnly t [.ports, .parking]
  states : ∀ q, (t.port q).state = (s.port q).state
  orphans : ∀ q, (t.port q).orphan = (s.port q).orphan
  granted : ∀ q m, (t.port q).current = some { msg := m, phase := .granted } ↔
    (s.port q).current = some { msg := m, phase := .granted }
  parking : t.ParkingSound

/-- The request of the port that the operation in flight serves stands in GRANTED, unless the port was reset since (R24,
R33). -/
theorem State.SequencerSound.granted_of_serves (h : s.SequencerSound) (serves : s.servesPort q)
    (unmarked : (s.port q).orphan = false) : ∃ m, (s.port q).current = some { msg := m, phase := .granted } := by
  obtain ⟨o, terms, flight, served, rfl⟩ := serves
  have sound := h.served o flight
  unfold Operation.ServedSound at sound
  rw [served] at sound
  exact ⟨_, sound.current unmarked⟩

theorem State.SequencerSound.of_portsMove (h : s.SequencerSound) (move : s.PortsMove t) : t.SequencerSound := by
  have isGranted (q : Port) : (t.port q).isGranted = true ↔ (s.port q).isGranted = true := by
    simp only [PortRecord.isGranted_iff, move.granted]
  refine h.of_follows (move.frame .sequencer (by decide)) (move.frame.follows (by decide)) (fun q served unmarked => ?_)
    (fun q granted => ⟨(isGranted q).mp granted, move.orphans q⟩) fun q marked => .inl (move.orphans q ▸ marked)
  rw [move.orphans q] at unmarked
  obtain ⟨m, current⟩ := h.granted_of_serves served unmarked
  exact ⟨unmarked, ((move.granted q m).mpr current).trans current.symm⟩

theorem State.Live.of_portsMove (hs : s.Live) (move : s.PortsMove t) : t.Live :=
  hs.of_states (move.frame.mono (by decide)) move.states move.parking (hs.sequencer.of_portsMove move)
    (hs.initClear.of_frame move.frame (by decide))

/-- The same of a step that touches one port. -/
theorem State.PortsMove.of_port (frame : s.ChangesOnly t [.ports, .parking]) (others : s.OthersStand t p)
    (state : (t.port p).state = (s.port p).state) (orphan : (t.port p).orphan = (s.port p).orphan)
    (granted : ∀ m, (t.port p).current = some { msg := m, phase := .granted } ↔
      (s.port p).current = some { msg := m, phase := .granted }) (parking : t.ParkingSound) : s.PortsMove t := by
  refine ⟨frame, fun q => ?_, fun q => ?_, fun q m => ?_, parking⟩ <;> by_cases same : q = p
  · rw [same, state]
  · rw [others q same]
  · rw [same, orphan]
  · rw [others q same]
  · rw [same, granted]
  · rw [others q same]

/-- A record with the state, the mark and the current request that the port has. -/
theorem State.Live.setPort_of_current (hs : s.Live) (state : r.state = (s.port p).state)
    (orphan : r.orphan = (s.port p).orphan) (current : r.current = (s.port p).current) : (s.setPort p r).Live := by
  have here : (s.setPort p r).port p = r := State.port_setPort_same _ _ _
  refine hs.of_portsMove (.of_port (State.changesOnly_setPort.mono (by simp)) State.othersStand_setPort
    (by rw [here, state]) (by rw [here, orphan]) (fun m => by rw [here, current]) ?_)
  refine State.parkingSound_iff.mpr fun q => ?_
  have marks := State.parkingSound_iff.mp hs.parking q
  by_cases same : q = p
  · subst same
    rw [here, current]
    exact marks
  · rw [State.port_setPort_of_ne _ _ same]
    exact marks

@[simp] theorem PortRecord.becomeCurrent_orphan (check : Request → Option Status) (r : PortRecord) :
    (r.becomeCurrent check).orphan = r.orphan := by
  unfold PortRecord.becomeCurrent
  split <;> rfl

@[simp] theorem PortRecord.answered_orphan (resp : Response) (r : PortRecord) :
    (r.answered resp).orphan = r.orphan := by
  unfold PortRecord.answered
  split <;> rfl

/-- The request that a port takes waits in ROUTED (R24). -/
theorem PortRecord.becomeCurrent_not_granted {check : Request → Option Status} (idle : r.current = none) :
    (r.becomeCurrent check).current ≠ some { msg := m, phase := .granted } := by
  rw [PortRecord.becomeCurrent_of_idle idle]
  exact fun granted => nomatch (takeNext_current _ _ _ _ granted).2

theorem PortRecord.answered_current (resp : Response) (r : PortRecord) : (r.answered resp).current = none := by
  cases current : r.current with
  | none => simp [PortRecord.answered, current]
  | some c => rw [PortRecord.answered_of_busy current]

/-- A request in ROUTED is answered (R30). -/
theorem State.Live.answer (hs : s.Live) (routed : s.Routed p m k) (resp : Response) : (s.answer p resp).Live := by
  refine hs.of_portsMove (.of_port (State.changesOnly_answer p resp) (fun q other => State.port_answer_of_ne _ _ other)
    ?_ ?_ (fun m' => ?_) (State.parkingSound_answer hs.parking p resp)) <;> rw [State.port_answer_same]
  · rw [PortRecord.becomeCurrent_state, PortRecord.answered_state]
  · rw [PortRecord.becomeCurrent_orphan, PortRecord.answered_orphan]
  · refine iff_of_false (PortRecord.becomeCurrent_not_granted (PortRecord.answered_current _ _)) fun granted => ?_
    exact nomatch routed.1.symm.trans granted

/-- A port without a current request takes the one that has arrived (R21, R24). -/
theorem State.Live.serveNext_accepted (hs : s.Live) (idle : (s.port p).current = none) :
    ((s.setPort p ((s.port p).accepted m)).serveNext p).Live := by
  have taken : ((s.setPort p ((s.port p).accepted m)).serveNext p).port p =
      ((s.port p).accepted m).becomeCurrent s.portCheck := by
    rw [State.port_serveNext_same, State.port_setPort_same]
    rfl
  have others : s.OthersStand ((s.setPort p ((s.port p).accepted m)).serveNext p) p := fun q other =>
    (State.port_serveNext_of_ne other).trans (State.othersStand_setPort q other)
  obtain ⟨marked, stood⟩ := State.remarked_serveNext (s := s.setPort p ((s.port p).accepted m)) (p := p)
  refine hs.of_portsMove (.of_port ((State.changesOnly_setPort.trans State.changesOnly_serveNext).mono (by simp)) others
    ?_ ?_ (fun m' => ?_) fun q => ?_)
  · rw [taken, PortRecord.becomeCurrent_state]
    rfl
  · rw [taken, PortRecord.becomeCurrent_orphan]
    rfl
  · rw [taken, idle]
    exact iff_of_false (PortRecord.becomeCurrent_not_granted (r := (s.port p).accepted m) idle) (by simp)
  · by_cases same : q = p
    · subst same
      exact marked
    · rw [others q same, stood q same]
      exact hs.parking q

theorem State.Live.arrive (hs : s.Live) : (s.arrive p m).Live := by
  rcases Nat.lt_or_ge (s.port p).outstanding 8 with room | full
  · cases current : (s.port p).current with
    | some c =>
      rw [State.arrive_of_busy room current]
      exact hs.setPort_of_current rfl rfl rfl
    | none =>
      rw [State.arrive_of_idle room current]
      exact hs.serveNext_accepted current
  · rw [State.arrive_of_full full]
    exact hs.of_frame (State.changesOnly_ask _) (by decide)

theorem State.Live.deliver (hs : s.Live) : (s.setPort p (s.port p).deliver).Live := by
  refine hs.setPort_of_current (PortRecord.deliver_state _) ?_ ?_ <;>
  · unfold PortRecord.deliver
    split <;> rfl

/-! ### Reservations go (R87, R88, R101) -/

theorem State.Live.dropReservations (hs : s.Live) (gone : Reservation → Bool) : (s.dropReservations gone).Live := by
  have frame : s.ChangesOnly (s.dropReservations gone) [.reservations, .parking] := State.changesOnly_dropReservations _
  have sub : (s.dropReservations gone).table.entries.Sublist s.table.entries := State.dropReservations_sublist s gone
  have follows : s.Follows (s.dropReservations gone) :=
    { State.Follows.refl s with
      room := fun p _ => room_of_sublist sub (hs.reservations.perPort p) }
  exact
    { high := hs.high
      pins := hs.pins
      entries := hs.entries.of_frame frame (by decide)
      offers := hs.offers.of_frame frame (by decide)
      reservations := hs.reservations.of_sublist sub rfl (fun _ _ => id) fun _ _ => id
      parking := State.parkingSound_dropReservations gone
      sequencer := hs.sequencer.of_ports rfl follows rfl
      clear := hs.clear.of_frame frame (by decide)
      items := hs.items
      beforeRun := hs.beforeRun.of_blocks rfl rfl rfl fun outside => ⟨rfl, by
        have empty := (hs.beforeRun.quiet outside).2.1
        rw [empty] at sub ⊢
        exact List.sublist_nil.mp sub, rfl⟩
      initClear := hs.initClear.of_frame frame (by decide) }

/-! ### What a routed request tells of its port and of the device (R16, R26, R27) -/

section
variable (ports : s.PortsSound) (routed : s.Routed p m k)
include ports routed

theorem State.PortsSound.active_of_routed : (s.port p).state = .active := (ports.sound p).active_of_current routed.1

theorem State.PortsSound.served_of_routed : checkServed s.control.device s.size s.pageCount m k = none := by
  obtain ⟨k', named, -, served⟩ := State.portCheck_eq_none (ports.checked p _ routed.1)
  cases named.symm.trans routed.2
  exact served

theorem State.PortsSound.run_of_routed (needs : k.needsRun = true) : s.control.device = .run := by
  refine Classical.byContradiction fun outside => ?_
  exact nomatch (checkServed_outside_run outside needs).symm.trans (ports.served_of_routed routed)

theorem State.PortsSound.addr_lt_of_routed (memory : k.isMemory = true) : m.addr < s.size := by
  have served := ports.served_of_routed routed
  rw [ports.run_of_routed routed (RequestKind.needsRun_iff.mpr (.inl memory)),
    checkServed_of_address (.inl memory)] at served
  exact Nat.lt_of_not_le fun beyond => nomatch (if_pos beyond).symm.trans served

end

end Sys2Proof.Machine
end

section
/-! PROOF. The page map in RUN: what every page request, the end of an offer and a counted correction do to an entry, the
offer list and the clear queue keeps the invariant. -/
namespace Sys2Proof.Machine

variable {s t : State} {p target : Port} {e : PageEntry} {n : Nat} {offers : List OfferEntry} {c : ClearEngine}

/-! ### One page changes -/

/-- The entry of a page is replaced, and the offer list and the clear engine with it. -/
def State.setPage (s : State) (n : Nat) (e : PageEntry) (offers : List OfferEntry) (c : ClearEngine) : State :=
  ((s.setEntry n e).setOffers offers).setClear c

@[simp] theorem State.setPage_offers : (s.setPage n e offers c).pageMap.offers = offers := rfl

@[simp] theorem State.entry_dropReservations (gone : Reservation → Bool) :
    (s.dropReservations gone).entry n = s.entry n := rfl

theorem State.changesOnly_setPage : s.ChangesOnly (s.setPage n e offers c) [.entries, .offers, .clear] :=
  ((State.changesOnly_setEntry _ _).trans (State.changesOnly_setOffers _)).trans (State.changesOnly_setClear _)

theorem State.entryBecomes_setPage (inMap : n < s.pageMap.entries.length) :
    s.EntryBecomes (s.setPage n e offers c) n e := State.entryBecomes_setEntry inMap rfl

theorem State.EntriesSound.setPage (h : s.EntriesSound) (inMap : n < s.pageMap.entries.length) (sound : e.Sound s) :
    (s.setPage n e offers c).EntriesSound := by
  obtain ⟨here, others, length⟩ := State.entryBecomes_setPage (e := e) (offers := offers) (c := c) inMap
  refine h.of_entries rfl rfl length fun k _ stood => ?_
  by_cases same : k = n
  · rw [same, here]
    exact sound.of_states fun _ => rfl
  · rw [others k same]
    exact stood.of_states fun _ => rfl

/-- The holders of reservations on the page may still write it. -/
theorem State.ReservationsSound.setPage (h : s.ReservationsSound) (inMap : n < s.pageMap.entries.length)
    (writable : ∀ r ∈ s.table.entries, pageOf r.addr = n → (s.entry n).mayWrite r.port = true →
      e.mayWrite r.port = true) : (s.setPage n e offers c).ReservationsSound := by
  obtain ⟨here, others, -⟩ := State.entryBecomes_setPage (e := e) (offers := offers) (c := c) inMap
  refine h.of_sublist (List.Sublist.refl _) rfl (fun _ _ => id) fun r stands may => ?_
  by_cases same : pageOf r.addr = n
  · rw [same, here]
    exact writable r stands same (same ▸ may)
  · rwa [others _ same]

/-- In RUN a page changes: its entry is sound, the offers and the clear queue agree with it, and a CLEAR in flight keeps
its word. -/
theorem State.Live.setPage (hs : s.Live) (run : s.control.device = .run) (inMap : n < s.pageMap.entries.length)
    (sound : e.Sound s)
    (writable : ∀ r ∈ s.table.entries, pageOf r.addr = n → (s.entry n).mayWrite r.port = true →
      e.mayWrite r.port = true)
    (offers_ : (s.setPage n e offers c).OffersSound) (clear_ : (s.setPage n e offers c).ClearSound)
    (queue : s.clear.queue ≠ [] → c.queue ≠ [] ∧ c.nextWord = s.clear.nextWord) :
    (s.setPage n e offers c).Live :=
  have follows : s.Follows (s.setPage n e offers c) :=
    { State.Follows.refl s with queue := queue }
  { high := hs.high
    pins := hs.pins
    entries := hs.entries.setPage inMap sound
    offers := offers_
    reservations := hs.reservations.setPage inMap writable
    parking := hs.parking.of_frame State.changesOnly_setPage (by decide)
    sequencer := hs.sequencer.of_ports rfl follows rfl
    clear := clear_
    items := hs.items
    beforeRun := .of_run run hs.beforeRun.position
    initClear := .of_run run }

/-! ### Entries (R41, R42, R51) -/

theorem PageEntry.Sound.held (h : e.Sound s) (held : e.isHeld = true) {state : PageState}
    (stays : state = .held ∨ state = .offered) : PageEntry.Sound s { e with state := state } :=
  { h with
    owned := fun _ => h.owned held
    unowned := fun unheld => absurd (PageEntry.isHeld_iff.mpr stays) (Bool.eq_false_iff.mp unheld) }

theorem PageEntry.Sound.countCorrection (h : e.Sound s) (threshold : Nat) : (e.countCorrection threshold).Sound s :=
  { h with count := Nat.min_le_left _ _ }

/-- A page taken by one port, with empty sets (R62, R74). -/
theorem PageEntry.Sound.claimed (h : e.Sound s) (present : (s.port p).state ≠ .absent) (mode : GuardMode) :
    (e.claimed p mode).Sound s where
  owned _ := rfl
  unowned unheld := nomatch unheld
  nested q written := by simp [PageEntry.claimed] at written
  notOwner q reads := by simp [PageEntry.claimed] at reads
  present q named := by
    obtain rfl : p = q := by simpa [PageEntry.claimed] using named
    exact present
  count := h.count

theorem PageEntry.Sound.released (h : e.Sound s) (clearing : Bool) : (e.released clearing).Sound s where
  owned held := by cases clearing <;> cases held
  unowned _ := ⟨rfl, rfl, rfl, rfl⟩
  nested q written := by simp [PageEntry.released] at written
  notOwner q reads := by simp [PageEntry.released] at reads
  present q named := by simp [PageEntry.released] at named
  count := h.count

/-- A page without an owner changes its state between FREE and CLEARING (R143). -/
theorem PageEntry.Sound.freed (h : e.Sound s) (unheld : e.isHeld = false) :
    PageEntry.Sound s { e with state := .free } :=
  { h with owned := fun held => (nomatch held), unowned := fun _ => h.unowned unheld }

theorem PageEntry.get_granted_readSet (e : PageEntry) (target q : Port) (write : Bool) :
    (e.granted target write).readSet.get q = true ↔ q = target ∨ e.readSet.get q = true := by
  by_cases same : q = target <;> simp [PageEntry.granted, PortSet.with, same]

theorem PageEntry.get_granted_writeSet (e : PageEntry) (target q : Port) (write : Bool) :
    (e.granted target write).writeSet.get q = if q = target then write else e.writeSet.get q := by
  by_cases same : q = target <;> simp [PageEntry.granted, same]

theorem PageEntry.Sound.granted (h : e.Sound s) (present : (s.port target).state ≠ .absent)
    (notOwner : e.owner ≠ some target) (held : e.isHeld = true) (write : Bool) : (e.granted target write).Sound s where
  owned _ := h.owned held
  unowned unheld := absurd held (Bool.eq_false_iff.mp unheld)
  nested q written := by
    rw [PageEntry.get_granted_writeSet] at written
    refine (PageEntry.get_granted_readSet e target q write).mpr ?_
    by_cases same : q = target
    · exact .inl same
    · exact .inr (h.nested q (by simpa [same] using written))
  notOwner q reads := by
    rcases (PageEntry.get_granted_readSet e target q write).mp reads with rfl | reads
    · exact notOwner
    · exact h.notOwner q reads
  present q named := by
    rw [PageEntry.get_granted_readSet] at named
    rcases named with (rfl | reads) | owns
    · exact present
    · exact h.present q (.inl reads)
    · exact h.present q (.inr owns)
  count := h.count

theorem PageEntry.Sound.revoked (h : e.Sound s) (held : e.isHeld = true) : (e.revoked target).Sound s where
  owned _ := h.owned held
  unowned unheld := absurd held (Bool.eq_false_iff.mp unheld)
  nested q written := by
    simp only [PageEntry.revoked, PortSet.get_without, Bool.and_eq_true] at written ⊢
    exact written.imp_left (h.nested q)
  notOwner q reads := by
    simp only [PageEntry.revoked, PortSet.get_without, Bool.and_eq_true] at reads
    exact h.notOwner q reads.1
  present q named := by
    simp only [PageEntry.revoked, PortSet.get_without, Bool.and_eq_true] at named
    exact h.present q (named.imp_left And.left)
  count := h.count

/-! ### The offer list (R71) -/

/-- An offer ends: its entry leaves the list, and its page is no longer OFFERED. -/
theorem State.OffersSound.setPage_removed (h : s.OffersSound) (inMap : n < s.pageMap.entries.length)
    (ended : e.state ≠ .offered) :
    (s.setPage n e (s.pageMap.offers.filter fun o => decide (o.page ≠ n)) c).OffersSound := by
  obtain ⟨here, others, -⟩ := State.entryBecomes_setPage (e := e) (c := c)
    (offers := s.pageMap.offers.filter fun o => decide (o.page ≠ n)) inMap
  have left {o : OfferEntry} : o ∈ s.pageMap.offers.filter (fun o => decide (o.page ≠ n)) ↔
      o ∈ s.pageMap.offers ∧ o.page ≠ n := by simp
  exact
    { room := Nat.le_trans (List.length_filter_le _ _) h.room
      distinct := h.distinct.sublist (List.filter_sublist.map _)
      offered := fun k => by
        by_cases same : k = n
        · rw [same, here]
          refine iff_of_false ended fun named => ?_
          obtain ⟨o, stands, page⟩ := List.mem_map.mp named
          exact (left.mp stands).2 page
        · rw [others k same, h.offered k, List.mem_map, List.mem_map]
          exact exists_congr fun o => and_congr_left fun page =>
            ⟨fun stands => left.mpr ⟨stands, page ▸ same⟩, fun stands => (left.mp stands).1⟩
      owner := fun o stands => by
        obtain ⟨stood, other⟩ := left.mp stands
        rw [others _ other]
        exact h.owner o stood
      parties := fun o stands => h.parties o (left.mp stands).1 }

/-- A page that was not OFFERED is, by its owner (R72). -/
theorem State.OffersSound.setPage_offered (h : s.OffersSound) (inMap : n < s.pageMap.entries.length) {o : OfferEntry}
    (page : o.page = n) (held : (s.entry n).state = .held) (owner : (s.entry n).owner = some o.fromPort)
    (room : s.pageMap.offers.length < 8) (other : o.fromPort ≠ o.toPort)
    (giver : (s.port o.fromPort).state = .active) (taker : (s.port o.toPort).state = .active) :
    (s.setPage n { s.entry n with state := .offered } (s.pageMap.offers ++ [o]) c).OffersSound := by
  obtain ⟨here, others, -⟩ := State.entryBecomes_setPage (e := { s.entry n with state := .offered }) (c := c)
    (offers := s.pageMap.offers ++ [o]) inMap
  have fresh : n ∉ s.pageMap.offers.map OfferEntry.page := fun named =>
    nomatch held.symm.trans ((h.offered n).mpr named)
  have known {x : OfferEntry} : x ∈ s.pageMap.offers ++ [o] ↔ x ∈ s.pageMap.offers ∨ x = o := by simp
  exact
    { room := by simpa using room
      distinct := by
        rw [State.setPage_offers, List.map_append]
        refine List.nodup_append.mpr ⟨h.distinct, List.nodup_singleton _, fun a named b last same => fresh ?_⟩
        obtain rfl : b = o.page := List.mem_singleton.mp last
        exact page ▸ same ▸ named
      offered := fun k => by
        by_cases same : k = n
        · rw [same, here]
          exact iff_of_true rfl (List.mem_map.mpr ⟨o, known.mpr (.inr rfl), page⟩)
        · rw [others k same, h.offered k]
          simp [page, same]
      owner := fun x stands => by
        rcases known.mp stands with stood | rfl
        · have different : x.page ≠ n := fun same => fresh (List.mem_map.mpr ⟨x, stood, same⟩)
          rw [others _ different]
          exact h.owner x stood
        · rw [page, here]
          exact owner
      parties := fun x stands => by
        rcases known.mp stands with stood | rfl
        · exact h.parties x stood
        · exact ⟨other, giver, taker⟩ }

/-! ### The clear queue (R140, R141) -/

/-- A page released with clearing joins the queue at its tail. -/
theorem State.ClearSound.setPage_append (h : s.ClearSound) (inMap : n < s.pageMap.entries.length)
    (fresh : (s.entry n).state ≠ .clearing) (clearing : e.state = .clearing) :
    (s.setPage n e offers (s.clear.append n)).ClearSound := by
  obtain ⟨here, others, length⟩ := State.entryBecomes_setPage (e := e) (offers := offers) (c := s.clear.append n) inMap
  have notQueued : n ∉ s.clear.queue := fun queued => fresh ((h.exact n).mp queued).2
  exact
    { distinct := by
        refine List.nodup_append.mpr ⟨h.distinct, List.nodup_singleton n, fun a queued b last same => ?_⟩
        exact notQueued (List.mem_singleton.mp last ▸ same ▸ queued)
      exact := fun k => by
        change k ∈ s.clear.queue ++ [n] ↔ _
        rw [List.mem_append, List.mem_singleton, length]
        by_cases same : k = n
        · rw [same, here]
          exact iff_of_true (.inr rfl) ⟨inMap, clearing⟩
        · rw [others k same, ← h.exact k]
          simp [same]
      progress := by
        change (if s.clear.queue.isEmpty then 0 else s.clear.progress) < _
        split
        · decide
        · exact h.progress
      empty := fun empty => absurd empty (List.append_ne_nil_of_right_ne_nil _ (List.cons_ne_nil _ _)) }

/-- A CLEAR in flight keeps its word when a page joins the queue at its tail. -/
theorem ClearEngine.append_nextWord (n : Nat) (queued : c.queue ≠ []) :
    (c.append n).queue ≠ [] ∧ (c.append n).nextWord = c.nextWord := by
  cases queue : c.queue with
  | nil => exact absurd queue queued
  | cons head rest => simp [ClearEngine.append, ClearEngine.nextWord, queue]

/-! ### The operations on pages (R51, R62 to R76) -/

section
variable (hs : s.Live) (run : s.control.device = .run)
include hs run

/-- An entry that is replaced alone: the page is CLEARING or OFFERED as before, and by the same owner. -/
theorem State.Live.setEntry (inMap : n < s.pageMap.entries.length) (sound : (s.entry n).Sound s → e.Sound s)
    (writable : ∀ r ∈ s.table.entries, pageOf r.addr = n → (s.entry n).mayWrite r.port = true →
      e.mayWrite r.port = true)
    (offered : e.state = .offered ↔ (s.entry n).state = .offered)
    (owner : (s.entry n).state = .offered → e.owner = (s.entry n).owner)
    (clearing : e.state = .clearing ↔ (s.entry n).state = .clearing) : (s.setEntry n e).Live :=
  have becomes : s.EntryBecomes (s.setEntry n e) n e := State.entryBecomes_setEntry inMap rfl
  hs.setPage (offers := s.pageMap.offers) (c := s.clear) run inMap (sound (hs.entries.entry inMap)) writable
    (hs.offers.of_entryBecomes rfl becomes offered owner rfl) (hs.clear.of_entryBecomes rfl becomes clearing)
    fun queued => ⟨queued, rfl⟩

/-- A counted correction, on a page in any state (R51, R52). -/
theorem State.Live.countCorrection (threshold : Nat) :
    (s.setEntry n ((s.entry n).countCorrection threshold)).Live := by
  by_cases inMap : n < s.pageMap.entries.length
  · exact hs.setEntry run inMap (·.countCorrection threshold) (fun _ _ _ => id) Iff.rfl (fun _ => rfl) Iff.rfl
  · have stands : s.setEntry n ((s.entry n).countCorrection threshold) = s := by
      rw [State.setEntry, List.set_eq_of_length_le (Nat.le_of_not_lt inMap)]
      rfl
    rwa [stands]

/-- CLAIM of a FREE page, on which nobody holds a reservation (R62). -/
theorem State.Live.claim (free : judgeClaim (s.entry n) = none) (present : (s.port p).state ≠ .absent)
    (mode : GuardMode) : (s.setEntry n ((s.entry n).claimed p mode)).Live := by
  have state : (s.entry n).state = .free := by
    cases state : (s.entry n).state <;> simp [judgeClaim, state] at free ⊢
  have unheld : (s.entry n).isHeld = false := PageEntry.isHeld_eq_false_iff.mpr (.inl state)
  refine hs.setEntry run (State.lt_of_entry (by simp [state])) (·.claimed present mode) (fun r _ _ may => ?_) ?_ ?_ ?_
  · exact absurd may (by simp [(PageEntry.no_right unheld).2])
  all_goals simp [PageEntry.claimed, state]

/-- An offer ends without a hand-over (R75, R76). -/
theorem State.Live.endOffer (offered : (s.entry n).state = .offered) : ((s.removeOffer n).backToHeld n).Live := by
  have inMap : n < s.pageMap.entries.length := State.lt_of_entry (by simp [offered])
  have held : (s.entry n).isHeld = true := PageEntry.isHeld_iff.mpr (.inr offered)
  have becomes : s.EntryBecomes ((s.removeOffer n).backToHeld n) n { s.entry n with state := .held } :=
    State.entryBecomes_setEntry inMap rfl
  refine hs.setPage (c := s.clear) run inMap ((hs.entries.entry inMap).held held (.inl rfl)) (fun r _ _ may => ?_)
    (hs.offers.setPage_removed inMap (by simp)) (hs.clear.of_entryBecomes rfl becomes (by simp [offered]))
    fun queued => ⟨queued, rfl⟩
  exact PageEntry.mayWrite_iff.mpr ⟨.inl rfl, (PageEntry.mayWrite_iff.mp may).2⟩

/-- ACCEPT: the page changes hands, and every reservation on it goes (R74). -/
theorem State.Live.takeOver (offered : (s.entry n).state = .offered) (present : (s.port p).state ≠ .absent)
    (o : OfferEntry) : (s.takeOver n p o).Live := by
  have inMap : n < s.pageMap.entries.length := State.lt_of_entry (by simp [offered])
  have dropped := hs.dropReservations (Reservation.onPage n)
  have taken := dropped.setPage (n := n) (e := (s.entry n).acceptedBy p) (c := s.clear) run inMap
    ((dropped.entries.entry inMap).claimed present (s.entry n).guardMode) (fun r stands onPage _ => ?_)
    (dropped.offers.setPage_removed inMap (by simp [PageEntry.acceptedBy])) ?_ fun queued => ⟨queued, rfl⟩
  · exact taken.of_frame (State.changesOnly_ask _) (by decide)
  · have gone := ((State.mem_dropReservations _ _ r).mp stands).2
    simp [Reservation.onPage, onPage] at gone
  · exact dropped.clear.of_entryBecomes rfl (State.entryBecomes_setPage inMap)
      (by simp [PageEntry.acceptedBy, offered])

end

/-! #### The owner's requests -/

/-- The owner check passes the owner of a HELD page (R61). -/
theorem judgeOwner_eq_none (passed : judgeOwner e p = none) : e.ownedBy p = true ∧ e.state = .held := by
  cases owned : e.ownedBy p with
  | false => exact nomatch (judgeOwner_of_not_owned owned).symm.trans passed
  | true =>
    obtain ⟨held | offered, -⟩ := PageEntry.ownedBy_iff.mp owned
    · exact ⟨rfl, held⟩
    · exact nomatch (judgeOwner_of_offered owned offered).symm.trans passed

theorem judgeGrant_eq_none (passed : judgeGrant s e p target = none) :
    e.ownedBy p = true ∧ e.state = .held ∧ (s.port target).state = .active ∧ target ≠ p := by
  cases owner : judgeOwner e p with
  | some st => exact nomatch (judgeGrant_of_judgeOwner owner).symm.trans passed
  | none =>
    obtain ⟨owned, held⟩ := judgeOwner_eq_none owner
    rw [judgeGrant_of_held owned held] at passed
    exact ⟨owned, held, by simpa using passed⟩

theorem judgeRevoke_eq_none (passed : judgeRevoke s e p target = none) :
    e.ownedBy p = true ∧ e.state = .held ∧ target ≠ p := by
  cases owner : judgeOwner e p with
  | some st => exact nomatch (judgeRevoke_of_judgeOwner owner).symm.trans passed
  | none =>
    obtain ⟨owned, held⟩ := judgeOwner_eq_none owner
    rw [judgeRevoke_of_held owned held] at passed
    have present : (s.port target).state ≠ .absent ∧ target ≠ p := by simpa using passed
    exact ⟨owned, held, present.2⟩

theorem judgeOffer_eq_none (passed : judgeOffer s e p target = none) :
    judgeGrant s e p target = none ∧ s.pageMap.offers.length < 8 := by
  cases grant : judgeGrant s e p target with
  | some st => exact nomatch (judgeOffer_of_judgeGrant grant).symm.trans passed
  | none =>
    rw [judgeOffer_of_passed grant] at passed
    exact ⟨rfl, by simpa using passed⟩

theorem judgeWithdraw_eq_none (passed : judgeWithdraw e p = none) : e.state = .offered := by
  cases owned : e.ownedBy p with
  | false => exact nomatch (judgeWithdraw_of_not_owned owned).symm.trans passed
  | true =>
    rw [judgeWithdraw_of_owned owned] at passed
    simpa using passed

section
variable (hs : s.Live) (run : s.control.device = .run)
include hs run

/-- The sets of a HELD page change, and every reservation that the new sets bar is gone. -/
theorem State.Live.setEntry_of_held (held : (s.entry n).state = .held) (state : e.state = .held)
    (sound : (s.entry n).Sound s → e.Sound s)
    (writable : ∀ r ∈ s.table.entries, pageOf r.addr = n → (s.entry n).mayWrite r.port = true →
      e.mayWrite r.port = true) : (s.setEntry n e).Live :=
  hs.setEntry run (State.lt_of_entry (by simp [held])) sound writable (by simp [held, state]) (by simp [held])
    (by simp [held, state])

/-- GRANT; only a downgrade takes the write right from a port, and then its reservations go (R64, R65). -/
theorem State.Live.grantRight (passed : judgeGrant s (s.entry n) p target = none) (write : Bool) :
    (s.grantRight n target write).Live := by
  obtain ⟨owned, held, active, other⟩ := judgeGrant_eq_none passed
  have isHeld : (s.entry n).isHeld = true := PageEntry.isHeld_iff.mpr (.inl held)
  have notOwner : (s.entry n).owner ≠ some target := (PageEntry.owner_ne_iff_of_ownedBy owned).mpr other
  have present : (s.port target).state ≠ .absent := by simp [active]
  have mayStill {q : Port} (may : (s.entry n).mayWrite q = true) (keeps : q = target → write = true) :
      ((s.entry n).granted target write).mayWrite q = true := by
    obtain ⟨-, right⟩ := PageEntry.mayWrite_iff.mp may
    refine PageEntry.mayWrite_iff.mpr ⟨.inl held, right.imp_right fun written => ?_⟩
    rw [PageEntry.get_granted_writeSet]
    split
    next same => exact keeps same
    next => exact written
  cases downgrade : (!write && (s.entry n).writeSet.get target) with
  | true =>
    obtain ⟨right, written⟩ := Bool.and_eq_true_iff.mp downgrade
    obtain rfl : write = false := by simpa using right
    rw [State.grantRight_of_downgrade s written]
    have dropped := hs.dropReservations (Reservation.ofPortOnPage target n)
    refine dropped.setEntry_of_held run (e := (s.entry n).granted target false) held held
      (·.granted present notOwner isHeld false) fun r stands onPage may => mayStill may fun same => ?_
    have gone := ((State.mem_dropReservations _ _ r).mp stands).2
    simp [Reservation.ofPortOnPage, Reservation.onPage, onPage, same] at gone
  | false =>
    have kept : write = true ∨ (s.entry n).writeSet.get target = false := by
      cases write <;> simp_all
    rw [State.grantRight_of_no_downgrade s kept]
    refine hs.setEntry_of_held run held held (·.granted present notOwner isHeld write) fun r _ _ may =>
      mayStill may fun same => ?_
    obtain ⟨-, owner | written⟩ := PageEntry.mayWrite_iff.mp may
    · exact absurd (same ▸ owner) notOwner
    · exact kept.resolve_right (by simp [← same, written])

/-- REVOKE takes the target out of both sets, and its reservations with it (R67). -/
theorem State.Live.revoke (passed : judgeRevoke s (s.entry n) p target = none) :
    ((s.setEntry n ((s.entry n).revoked target)).dropReservations (Reservation.ofPortOnPage target n)).Live := by
  obtain ⟨-, held, -⟩ := judgeRevoke_eq_none passed
  have isHeld : (s.entry n).isHeld = true := PageEntry.isHeld_iff.mpr (.inl held)
  have dropped := hs.dropReservations (Reservation.ofPortOnPage target n)
  refine dropped.setEntry_of_held run (e := (s.entry n).revoked target) held held (·.revoked isHeld)
    fun r stands onPage may => ?_
  obtain ⟨-, right⟩ := PageEntry.mayWrite_iff.mp may
  have gone := ((State.mem_dropReservations _ _ r).mp stands).2
  have other : r.port ≠ target := by simpa [Reservation.ofPortOnPage, Reservation.onPage, onPage] using gone
  refine PageEntry.mayWrite_iff.mpr ⟨.inl held, right.imp_right fun written => ?_⟩
  have still : (s.entry n).writeSet.get r.port = true := written
  simp [PageEntry.revoked, other, still]

/-- OFFER by the owner, with room in the list (R72). -/
theorem State.Live.makeOffer (passed : judgeOffer s (s.entry n) p target = none) (giver : (s.port p).state = .active) :
    (s.makeOffer n p target).Live := by
  obtain ⟨grant, room⟩ := judgeOffer_eq_none passed
  obtain ⟨owned, held, taker, other⟩ := judgeGrant_eq_none grant
  have inMap : n < s.pageMap.entries.length := State.lt_of_entry (by simp [held])
  have isHeld : (s.entry n).isHeld = true := PageEntry.isHeld_iff.mpr (.inl held)
  refine (hs.setPage (c := s.clear) run inMap ((hs.entries.entry inMap).held isHeld (.inr rfl)) (fun r _ _ may => ?_)
    (hs.offers.setPage_offered inMap rfl held (PageEntry.owner_of_ownedBy owned) room (Ne.symm other) giver taker)
    (hs.clear.of_entryBecomes rfl (State.entryBecomes_setPage inMap) (by simp [held]))
    fun queued => ⟨queued, rfl⟩).of_frame (State.changesOnly_ask _) (by decide)
  exact PageEntry.mayWrite_iff.mpr ⟨.inr rfl, (PageEntry.mayWrite_iff.mp may).2⟩

/-- RELEASE: every reservation on the page goes, and with clearing the page joins the clear queue (R68, R141). -/
theorem State.Live.giveUp (passed : judgeOwner (s.entry n) p = none) (clearing : Bool) :
    (s.giveUp n clearing).Live := by
  obtain ⟨-, held⟩ := judgeOwner_eq_none passed
  have inMap : n < s.pageMap.entries.length := State.lt_of_entry (by simp [held])
  have dropped := hs.dropReservations (Reservation.onPage n)
  have nobody (r : Reservation) (stands : r ∈ (s.dropReservations (Reservation.onPage n)).table.entries)
      (onPage : pageOf r.addr = n) : False := by
    have gone := ((State.mem_dropReservations _ _ r).mp stands).2
    simp [Reservation.onPage, onPage] at gone
  cases clearing with
  | false =>
    exact dropped.setEntry run inMap (·.released false) (fun r stands onPage => (nobody r stands onPage).elim)
      (iff_of_false (by simp [PageEntry.released]) (by simp [held]))
      (fun offered => (nomatch held.symm.trans offered))
      (iff_of_false (by simp [PageEntry.released]) fun clears => (nomatch held.symm.trans clears))
  | true =>
    have becomes := State.entryBecomes_setPage (s := s.dropReservations (Reservation.onPage n))
      (e := (s.entry n).released true) (offers := s.pageMap.offers) (c := s.clear.append n) inMap
    exact dropped.setPage run inMap ((dropped.entries.entry inMap).released true)
      (fun r stands onPage => (nobody r stands onPage).elim)
      (dropped.offers.of_entryBecomes rfl becomes
        (iff_of_false (by simp [PageEntry.released]) fun offered => (nomatch held.symm.trans offered))
        (fun offered => (nomatch held.symm.trans offered)) rfl)
      (dropped.clear.setPage_append inMap (fun clears => (nomatch held.symm.trans clears)) rfl)
      (ClearEngine.append_nextWord n)

end

end Sys2Proof.Machine
end

section
/-! PROOF. The grants and the end of READING: the operation that begins is the one R114 and R115 name, and the invariant
stands with it. -/
namespace Sys2Proof.Machine

variable {s t : State} {p q : Port} {m : Request} {k : RequestKind} {o : Operation} {terms : PortTerms} {a : Nat}

/-! ### Who serves whom -/

theorem State.not_servesPort_of_idle (idle : s.sequencer = none) : ¬ s.servesPort q := by
  rintro ⟨o, terms, flight, -⟩
  exact nomatch idle.symm.trans flight

theorem State.servesPort_iff (flight : s.sequencer = some o) (served : o.served = .port terms) :
    s.servesPort q ↔ terms.port = q := by
  constructor
  · rintro ⟨o', terms', flight', served', rfl⟩
    cases flight.symm.trans flight'
    cases served.symm.trans served'
    rfl
  · exact fun same => ⟨o, terms, flight, served, same⟩

theorem State.not_servesPort_of_engine (flight : s.sequencer = some o) (engine : ∀ terms, o.served ≠ .port terms) :
    ¬ s.servesPort q := by
  rintro ⟨o', terms, flight', served, -⟩
  cases flight.symm.trans flight'
  exact engine terms served

/-- A port that nobody serves is not in GRANTED and has no orphan mark (R24, R33). -/
theorem State.SequencerSound.quiet_of_unserved (h : s.SequencerSound) (unserved : ¬ s.servesPort q) :
    (s.port q).isGranted = false ∧ (s.port q).orphan = false :=
  ⟨Bool.eq_false_iff.mpr fun granted => unserved (h.granted q granted).1,
    Bool.eq_false_iff.mpr fun marked => unserved (h.orphan q marked)⟩

/-- With the sequencer idle no port is in GRANTED and none has the orphan mark. -/
theorem State.SequencerSound.of_idle (idle : t.sequencer = none)
    (quiet : ∀ q, (t.port q).isGranted = false ∧ (t.port q).orphan = false) : t.SequencerSound where
  phase _ flight := nomatch idle.symm.trans flight
  served _ flight := nomatch idle.symm.trans flight
  granted q granted := nomatch (quiet q).1.symm.trans granted
  orphan q marked := nomatch (quiet q).2.symm.trans marked

/-- With an operation in flight that is sound itself. -/
theorem State.SequencerSound.of_flight (flight : t.sequencer = some o) (phase : o.PhaseSound) (served : o.ServedSound t)
    (granted : ∀ q, (t.port q).isGranted = true → t.servesPort q ∧ (t.port q).orphan = false)
    (orphan : ∀ q, (t.port q).orphan = true → t.servesPort q) : t.SequencerSound where
  phase o' flight' := by
    cases flight.symm.trans flight'
    exact phase
  served o' flight' := by
    cases flight.symm.trans flight'
    exact served
  granted := granted
  orphan := orphan

theorem Operation.servedSound_of_port (served : o.served = .port terms) : o.ServedSound s ↔ terms.Sound s o := by
  simp [Operation.ServedSound, served]

/-! ### The operation of a port's request (R114, R115) -/

theorem operationKind_cases (memory : k.isMemory = true) (mode : GuardMode) (action : GuardAction) :
    operationKind k mode action = .read ∨ operationKind k mode action = .store ∨
      operationKind k mode action = .checkedStore ∨ operationKind k mode action = .merge := by
  have write : operationKind .write mode action = .checkedStore ∨ operationKind .write mode action = .store :=
    ite_eq_or_eq _ _ _
  cases k <;> try cases memory
  case read | lockedRead => exact .inl rfl
  case mergeWrite => exact .inr (.inr (.inr rfl))
  case write | condWrite => exact .inr (write.elim (fun checked => .inr (.inl checked)) .inl)

theorem operationFor_phaseSound (memory : terms.kind.isMemory = true) : (operationFor terms).PhaseSound := by
  have kinds : (operationFor terms).kind = .read ∨ (operationFor terms).kind = .store ∨
      (operationFor terms).kind = .checkedStore ∨ (operationFor terms).kind = .merge := operationKind_cases memory _ _
  by_cases store : (operationFor terms).kind = .store
  · obtain ⟨phase, settled⟩ := operationFor_of_store store
    simp only [Operation.PhaseSound, store]
    exact ⟨phase, rfl, by simp [settled]⟩
  · obtain ⟨phase, settled⟩ := operationFor_of_not_store store
    rcases kinds with kind | kind | kind | kind
    case inr.inl => exact absurd kind store
    all_goals simp [Operation.PhaseSound, kind, phase, settled]

/-! ### The grant of a port (R28, R108 to R111) -/

theorem PerPort.set_set {α : Type} (v : PerPort α) (p : Port) (a b : α) : (v.set p a).set p b = v.set p b := by
  cases p <;> rfl

/-- An answer at the grant leaves what an answer before it leaves, with the grant counted (R108, R111). -/
theorem State.toGranted_answer (routed : s.Routed p m k) (resp : Response) :
    (s.toGranted p m).answer p resp = (s.answer p resp).setArbiter (s.arbiterAfter p) := by
  have answered : ((s.toGranted p m).port p).answered resp = (s.port p).answered resp := by
    simp [State.port_toGranted_same, PortRecord.answered, routed.1]
  unfold State.answer
  rw [answered]
  simp only [State.toGranted, State.setPort, PerPort.set_set]
  rfl

theorem State.Live.toGranted_answer (hs : s.Live) (routed : s.Routed p m k) (resp : Response) :
    ((s.toGranted p m).answer p resp).Live := by
  rw [State.toGranted_answer routed]
  exact (hs.answer routed resp).of_frame (State.changesOnly_setArbiter _) (by decide)

/-- A LOCKED-READ that is not parked finds no other port on its word (R86, R90). -/
theorem State.ParkingSound.alone_of_unparked (h : s.ParkingSound) (routed : s.Routed p m k)
    (unparked : s.table.parking.get p = none) (parks : k = .lockedRead) :
    heldByOther s.table.entries p m.addr = false := by
  refine Bool.eq_false_iff.mpr fun held => ?_
  obtain ⟨e, stands, other⟩ := List.any_eq_true.mp held
  obtain ⟨onWord, other⟩ : e.addr = m.addr ∧ e.port ≠ p := by simpa using other
  have parked := (h p m.addr).mpr
    ⟨m, routed.1, rfl, .inr (.inr (routed.2.trans (congrArg some parks))), e, stands, onWord, other⟩
  exact nomatch unparked.symm.trans parked

section
variable (routed : s.Routed p m k) (memory : k.isMemory = true)
include routed memory

/-- A request that passes its checks begins its operation (R111). -/
theorem State.Live.toGranted_beginFor (hs : s.Live) (ports : s.PortsSound) (idle : s.sequencer = none)
    (unparked : s.table.parking.get p = none)
    (room : k = .lockedRead → noRoom s.table.entries p m.addr = false) :
    ((s.toGranted p m).beginFor p m k).Live := by
  have here : ((s.toGranted p m).beginFor p m k).port p =
      { s.port p with current := some { msg := m, phase := .granted } } :=
    State.port_toGranted_same
  have others : s.OthersStand ((s.toGranted p m).beginFor p m k) p := State.othersStand_toGranted
  have frame : s.ChangesOnly ((s.toGranted p m).beginFor p m k) [.ports, .arbiter, .sequencer] :=
    State.changesOnly_toGranted.trans (State.changesOnly_setSequencer _)
  have quiet (q : Port) := hs.sequencer.quiet_of_unserved (q := q) (State.not_servesPort_of_idle idle)
  have orphans (q : Port) : (((s.toGranted p m).beginFor p m k).port q).orphan = false := by
    by_cases same : q = p
    · rw [same, here]
      exact (quiet p).2
    · rw [others q same]
      exact (quiet q).2
  have alone := hs.parking.alone_of_unparked routed unparked
  have served : (s.termsAtGrant p m k).Sound ((s.toGranted p m).beginFor p m k) (operationFor (s.termsAtGrant p m k)) :=
    { kind := ⟨routed.2, memory⟩
      operation := rfl
      target := rfl
      inRange := ports.addr_lt_of_routed routed memory
      running := ports.run_of_routed routed (RequestKind.needsRun_iff.mpr (.inl memory))
      current := fun _ => congrArg PortRecord.current here
      room := fun locked => ⟨alone locked, room locked⟩ }
  refine hs.of_states (frame.mono (by decide)) (fun q => ?_) (State.parkingSound_iff.mpr fun q => ?_)
    (.of_flight rfl (operationFor_phaseSound memory) served (fun q granted => ⟨?_, orphans q⟩)
      fun q marked => nomatch (orphans q).symm.trans marked)
    (hs.initClear.of_frame frame (by decide))
  · by_cases same : q = p
    · rw [same, here]
    · rw [others q same]
  · by_cases same : q = p
    · rw [same, here]
      exact unparked
    · rw [others q same]
      exact State.parkingSound_iff.mp hs.parking q
  · refine ⟨_, _, rfl, rfl, ?_⟩
    by_cases same : q = p
    · exact same.symm
    · rw [others q same] at granted
      exact nomatch (quiet q).1.symm.trans granted

/-- The grant of a port, whatever its outcome (R48, R90, R92, R111). -/
theorem State.Live.grantOf (hs : s.Live) (ports : s.PortsSound) (idle : s.sequencer = none)
    (unparked : s.table.parking.get p = none) : (s.grantOf p m k).Live := by
  have begun := hs.toGranted_beginFor routed memory ports idle unparked
  unfold State.grantOf
  split
  case h_1 =>
    unfold State.grantLockedRead
    dsimp only
    split
    · exact hs.toGranted_answer routed _
    · split
      · exact hs.toGranted_answer routed _
      next room => exact begun fun _ => Bool.eq_false_iff.mpr room
  case h_2 =>
    unfold State.grantCondWrite
    dsimp only
    split
    · exact hs.toGranted_answer routed _
    · split
      · exact (begun fun locked => nomatch locked).dropReservations (Reservation.isOn p m.addr)
      · exact hs.toGranted_answer routed _
  case h_3 other _ =>
    unfold State.grantPlain
    dsimp only
    split
    · exact hs.toGranted_answer routed _
    · exact begun fun locked => absurd locked other

end

/-! ### The grants of the engines (R133, R142, R148) -/

/-- An operation of an engine begins in an idle sequencer. -/
theorem State.Live.beginEngine (hs : s.Live) (idle : s.sequencer = none) (phase : o.PhaseSound)
    (served : o.ServedSound (s.setSequencer (some o))) : (s.setSequencer (some o)).Live := by
  have frame : s.ChangesOnly (s.setSequencer (some o)) [.sequencer] := State.changesOnly_setSequencer _
  have quiet (q : Port) := hs.sequencer.quiet_of_unserved (q := q) (State.not_servesPort_of_idle idle)
  exact hs.of_states (frame.mono (by decide)) (fun _ => rfl) (hs.parking.of_frame frame (by decide))
    (.of_flight rfl phase served (fun q granted => nomatch (quiet q).1.symm.trans granted)
      fun q marked => nomatch (quiet q).2.symm.trans marked)
    (hs.initClear.of_frame frame (by decide))

theorem State.idle_of_chosen {c : Candidate} (chosen : s.arbiterChoice = some c) : s.sequencer = none := by
  refine Classical.byContradiction fun busy => ?_
  exact nomatch (State.arbiterChoice_of_busy busy).symm.trans chosen

/-- Whom the arbiter chooses stands as a candidate (R105, R106). -/
theorem State.stands_of_chosen {c : Candidate} (chosen : s.arbiterChoice = some c) : s.Stands c :=
  State.stands_of_grantOrder ((State.arbiterChoice_of_idle (State.idle_of_chosen chosen)).symm.trans chosen)

theorem State.Live.refreshGrant (hs : s.Live) (chosen : s.arbiterChoice = some .refreshController) :
    (s.setSequencer (some s.refreshOperation)).Live :=
  have owed : 1 ≤ s.refresh.owed := State.stands_of_chosen chosen
  hs.beginEngine (State.idle_of_chosen chosen) ⟨rfl, rfl, rfl⟩ ⟨rfl, rfl, owed⟩

theorem State.Live.clearGrant (hs : s.Live) (chosen : s.arbiterChoice = some .clearEngine) :
    ((s.setArbiter { s.arbiter with clearShare := 0 }).setSequencer (some s.clearOperation)).Live :=
  have queued : s.clear.queue ≠ [] := State.stands_of_chosen chosen
  have idle : s.sequencer = none := State.idle_of_chosen chosen
  (hs.of_frame (t := s.setArbiter { s.arbiter with clearShare := 0 }) (State.changesOnly_setArbiter _)
    (by decide)).beginEngine idle ⟨rfl, rfl, rfl⟩ ⟨rfl, rfl, queued, rfl⟩

/-- Nothing is pending at the scrub engine before RUN (R113, R147). -/
theorem State.Live.scrubGrant (hs : s.Live) (chosen : s.arbiterChoice = some .scrubEngine) :
    (s.setSequencer (some s.scrubOperation)).Live := by
  have pending : s.scrub.pending = true := State.stands_of_chosen chosen
  have run : s.control.device = .run := by
    refine Classical.byContradiction fun outside => ?_
    obtain ⟨-, -, none_pending, -⟩ := hs.beforeRun.quiet outside
    exact nomatch none_pending.symm.trans pending
  exact hs.beginEngine (State.idle_of_chosen chosen) ⟨rfl, fun _ => rfl⟩ ⟨rfl, rfl, run⟩

/-! ### The end of READING (R114) -/

/-- An operation that is neither STORE, CLEAR nor REFRESH. -/
def Operation.reads (o : Operation) : Prop :=
  o.kind = .read ∨ o.kind = .checkedStore ∨ o.kind = .merge ∨ o.kind = .scrub

/-- Of the engines the scrub engine alone reads, and it and the ports only in RUN (R57, R113). -/
theorem Operation.ServedSound.run_of_reads (h : o.ServedSound s) (reads : o.reads) : s.control.device = .run := by
  unfold Operation.ServedSound at h
  split at h
  · exact h.running
  · simp [Operation.reads, h.1] at reads
  · simp [Operation.reads, h.1] at reads
  · exact h.2.2

theorem Operation.afterRead_served (o : Operation) (d : DecodeResult) (w : Option Guarded) :
    (o.afterRead d w).served = o.served := rfl

/-- What an operation that reads does when its word is decoded. -/
theorem Operation.PhaseSound.afterRead (reads : o.reads) (d : DecodeResult) (w : Option Guarded) :
    (o.afterRead d w).PhaseSound := by
  unfold Operation.PhaseSound Operation.afterRead
  rcases reads with kind | kind | kind | kind <;> simp [kind]

theorem Operation.ServedSound.afterRead (h : o.ServedSound s) (reads : o.reads) (d : DecodeResult) (w : Option Guarded) :
    (o.afterRead d w).ServedSound s := by
  cases served : o.served with
  | port terms =>
    have sound : terms.Sound s o := (Operation.servedSound_of_port served).mp h
    exact (Operation.servedSound_of_port (o := o.afterRead d w) served).mpr { sound with }
  | refreshController => simpa [Operation.ServedSound, Operation.afterRead, served] using h
  | clearEngine =>
    simp only [Operation.ServedSound, served] at h
    simp [Operation.reads, h.1] at reads
  | scrubEngine => simpa [Operation.ServedSound, Operation.afterRead, served] using h

/-- A word being read belongs to an operation that reads. -/
theorem Operation.PhaseSound.reads_of_wordBeingRead (h : o.PhaseSound) (reading : o.wordBeingRead = some a) :
    o.reads := by
  have phase : o.phase = .reading := by
    unfold Operation.wordBeingRead at reading
    split at reading
    · assumption
    · cases reading
  unfold Operation.PhaseSound at h
  unfold Operation.reads
  split at h <;> simp_all

/-- And so does a word that has been read. -/
theorem Operation.PhaseSound.reads_of_decoded (h : o.PhaseSound) {d : DecodeResult} (read : o.decoded = some d) :
    o.reads := by
  unfold Operation.PhaseSound at h
  unfold Operation.reads
  split at h <;> simp_all

theorem State.Live.endReading (hs : s.Live) (flight : s.sequencer = some o) (reading : o.wordBeingRead = some a)
    (flips : StoredWord) : (s.endReading o a flips).Live := by
  have reads := (hs.sequencer.phase o flight).reads_of_wordBeingRead reading
  have served := hs.sequencer.served o flight
  have run := served.run_of_reads reads
  have frame : s.ChangesOnly (s.endReading o a flips) [.array, .sequencer] :=
    (State.changesOnly_setArray _).trans (State.changesOnly_setSequencer _)
  have serves (q : Port) : s.servesPort q → (s.endReading o a flips).servesPort q := by
    rintro ⟨o', terms, flight', named, same⟩
    cases flight.symm.trans flight'
    exact ⟨_, terms, rfl, (o.afterRead_served _ _).trans named, same⟩
  have follows : s.Follows (s.endReading o a flips) := frame.follows (by decide)
  refine hs.of_states (frame.mono (by decide)) (fun _ => rfl) (hs.parking.of_frame frame (by decide))
    (.of_flight rfl (.afterRead reads _ _) ?_ (fun q granted => ?_)
      fun q marked => serves q (hs.sequencer.orphan q marked))
    (.of_run run)
  · exact (served.afterRead reads _ _).of_follows follows fun _ _ unmarked => ⟨unmarked, rfl⟩
  · obtain ⟨own, unmarked⟩ := hs.sequencer.granted q granted
    exact ⟨serves q own, unmarked⟩

end Sys2Proof.Machine
end

section
/-! PROOF. The completions (R124): the write lands, the reports are made, the port is served or the engine moves on, and
the invariant stands after each. -/
namespace Sys2Proof.Machine

variable {s t : State} {p q : Port} {o : Operation} {terms : PortTerms} {a n : Nat} {d : DecodeResult} {c : ClearEngine}

/-! ### The write lands (R3) -/

/-- Outside RUN nothing reads, so what is in flight there is a CLEAR or a REFRESH (R57, R113). -/
theorem Operation.ServedSound.engine_outside_run (h : o.ServedSound s) (outside : s.control.device ≠ .run) :
    o.served = .refreshController ∨ o.served = .clearEngine := by
  unfold Operation.ServedSound at h
  split at h
  · exact absurd h.running outside
  · exact .inl ‹_›
  · exact .inr ‹_›
  · exact absurd h.2.2 outside

/-- A REFRESH has nothing to write (R114). -/
theorem Operation.PhaseSound.unsettled_of_refresh (h : o.PhaseSound) (kind : o.kind = .refresh) : o.settled = none := by
  simp only [Operation.PhaseSound, kind] at h
  exact h.2.2

/-- What a CLEAR writes is what the INIT clear wants: 40 zero bits (R2, R142). -/
theorem State.read_landWrite_of_zero (sound : s.ArraySound) (target : o.target = .word a)
    (settled : o.settled = some { data := 0#32, guard := false }) (b : Nat) :
    (s.landWrite o).array.read b = if b = a then 0#40 else s.array.read b := by
  obtain ⟨here, others⟩ := State.wordBecomes_landWrite sound target (u := s.landWrite o) rfl
  by_cases same : b = a
  · rw [same, here, settled, if_pos rfl]
    exact encode_zero
  · rw [others b same, if_neg same]

/-- A word that reads as 40 zero bits outside RUN does so once the write has landed. -/
theorem State.Live.landWrite_read_zero (hs : s.Live) (array : s.ArraySound) (flight : s.sequencer = some o)
    (outside : s.control.device ≠ .run) {b : Nat} (zero : s.array.read b = 0#40) :
    (s.landWrite o).array.read b = 0#40 := by
  have served := hs.sequencer.served o flight
  rcases served.engine_outside_run outside with engine | engine
  all_goals simp only [Operation.ServedSound, engine] at served
  · have unsettled := (hs.sequencer.phase o flight).unsettled_of_refresh served.1
    simpa [State.landWrite, unsettled] using zero
  · obtain ⟨-, target, -, settled⟩ := served
    rw [State.read_landWrite_of_zero array target settled, zero, ite_self]

theorem State.Live.landWrite (hs : s.Live) (array : s.ArraySound) (flight : s.sequencer = some o) :
    (s.landWrite o).Live := by
  have frame : s.ChangesOnly (s.landWrite o) [.array] := State.changesOnly_landWrite
  have control : (s.landWrite o).control = s.control := frame .control (by decide)
  have size : (s.landWrite o).size = s.size := frame.size_eq (by decide)
  refine hs.of_states (frame.mono (by decide)) (fun q => congrArg _ (frame.port_eq (by decide) q))
    (hs.parking.of_frame frame (by decide)) (hs.sequencer.of_frame frame (by decide)) ⟨fun init _ => ?_, fun setup => ?_⟩
  · rw [control] at init
    obtain ⟨k, inMap, queue, zero⟩ := hs.initClear.clearing init hs.high
    rw [State.pageCount, size, frame .clear (by decide)]
    exact ⟨k, inMap, queue, fun a before => hs.landWrite_read_zero array flight (by simp [init]) (zero a before)⟩
  · rw [control] at setup
    rw [size]
    exact fun a inArray =>
      hs.landWrite_read_zero array flight (by simp [setup]) (hs.initClear.cleared setup a inArray)

/-! ### The reports (R121, R123) -/

theorem State.Live.ask (hs : s.Live) (l : List NoticeRequest) : (s.ask l).Live :=
  hs.of_frame (State.changesOnly_ask l) (by decide)

theorem State.Live.report (hs : s.Live) (run : s.control.device = .run) (f : Finder) : (s.report a d f).Live := by
  unfold State.report
  split
  · exact hs
  · unfold State.reportSingle
    dsimp only
    split
    · exact (hs.countCorrection run _).ask _
    · exact hs.ask _
  · exact hs.ask _
  · exact hs.ask _

theorem State.Live.reportOf (hs : s.Live) (flight : s.sequencer = some o) : (s.reportOf o).Live := by
  unfold State.reportOf
  split
  next d a read _ =>
    have reads := (hs.sequencer.phase o flight).reads_of_decoded read
    exact hs.report ((hs.sequencer.served o flight).run_of_reads reads) _
  · exact hs
  · exact hs

theorem State.Live.reported (hs : s.Live) (array : s.ArraySound) (flight : s.sequencer = some o) :
    (s.reported o).Live :=
  (hs.landWrite array flight).reportOf (by simpa using flight)

/-! ### The reservation effect (R91) -/

theorem restartTimers_map {α : Type} (f : Reservation → α) (p : Port) (a lifetime : Nat)
    (same : ∀ e : Reservation, f { e with timer := .running lifetime } = f e) (l : List Reservation) :
    (restartTimers l p a lifetime).map f = l.map f := by
  rw [restartTimers, List.map_map]
  refine List.map_congr_left fun e _ => ?_
  dsimp only [Function.comp]
  split
  · exact same e
  · rfl

/-- A reservation is judged by its port and its word alone. -/
def Reservation.place (e : Reservation) : Port × Nat := (e.port, e.addr)

theorem reservationsOf_length (l : List Reservation) (p : Port) :
    (reservationsOf l p).length = (l.map Reservation.place).countP fun x => decide (x.1 = p) := by
  rw [reservationsOf, ← List.countP_eq_length_filter, List.countP_map]
  rfl

/-- The table stays sound while each entry is on the word and of the port that it was. -/
theorem State.ReservationsSound.of_places (h : s.ReservationsSound)
    (places : t.table.entries.map Reservation.place = s.table.entries.map Reservation.place)
    (straps : t.control.straps = s.control.straps) (entries : t.pageMap.entries = s.pageMap.entries)
    (ports : t.ports = s.ports) : t.ReservationsSound := by
  have among {e : Reservation} (stands : e ∈ t.table.entries) :
      ∃ e' ∈ s.table.entries, e'.port = e.port ∧ e'.addr = e.addr := by
    have placed : e.place ∈ s.table.entries.map Reservation.place := places ▸ List.mem_map_of_mem stands
    obtain ⟨e', stood, place⟩ := List.mem_map.mp placed
    exact ⟨e', stood, congrArg Prod.fst place, congrArg Prod.snd place⟩
  have addrs (l : List Reservation) : l.map Reservation.addr = (l.map Reservation.place).map Prod.snd := by
    rw [List.map_map]
    rfl
  refine ⟨fun p => ?_, ?_, fun e stands => ?_, fun e stands => ?_, fun e stands => ?_⟩
  · rw [reservationsOf_length, places, ← reservationsOf_length]
    exact h.perPort p
  · rw [addrs, places, ← addrs]
    exact h.distinct
  all_goals obtain ⟨e', stood, port, addr⟩ := among stands
  · rw [State.size, straps, ← addr]
    exact h.inRange e' stood
  · rw [State.port_congr ports, ← port]
    exact h.active e' stood
  · rw [State.entry_congr entries, ← addr, ← port]
    exact h.writable e' stood

/-- A new entry for an ACTIVE port that may write the page, holds at most one other, and finds the word free (R83, R91). -/
theorem State.ReservationsSound.append (h : s.ReservationsSound) {e : Reservation}
    (room : (reservationsOf s.table.entries e.port).length < 2) (fresh : e.addr ∉ s.table.entries.map Reservation.addr)
    (inRange : e.addr < s.size) (active : (s.port e.port).state = .active)
    (writable : (s.entry (pageOf e.addr)).mayWrite e.port = true) :
    (s.setReservations (s.table.entries ++ [e])).ReservationsSound := by
  have known {x : Reservation} (stands : x ∈ s.table.entries ++ [e]) : x ∈ s.table.entries ∨ x = e := by
    simpa using stands
  refine ⟨fun q => ?_, ?_, fun x stands => ?_, fun x stands => ?_, fun x stands => ?_⟩
  · change (reservationsOf (s.table.entries ++ [e]) q).length ≤ 2
    rw [reservationsOf, List.filter_append, List.length_append]
    by_cases same : e.port = q
    · rw [same, reservationsOf] at room
      simpa [same] using room
    · have perPort := h.perPort q
      rw [reservationsOf] at perPort
      simpa [same] using perPort
  · change ((s.table.entries ++ [e]).map Reservation.addr).Nodup
    rw [List.map_append]
    refine List.nodup_append.mpr ⟨h.distinct, List.nodup_singleton _, fun a named b last same => fresh ?_⟩
    obtain rfl : b = e.addr := List.mem_singleton.mp last
    exact same ▸ named
  · rcases known stands with stood | rfl
    · exact h.inRange x stood
    · exact inRange
  · rcases known stands with stood | rfl
    · exact h.active x stood
    · exact active
  · rcases known stands with stood | rfl
    · exact h.writable x stood
    · exact writable

section
variable (hs : s.Live) (flight : s.sequencer = some o) (served : o.served = .port terms)
  (locked : terms.kind = .lockedRead)
include hs flight served locked

theorem State.Live.reserve_reservations
    (active : (s.port terms.port).orphan = false → (s.port terms.port).state = .active) :
    (s.reserve terms.port terms.msg.addr d).ReservationsSound := by
  have sound := (Operation.servedSound_of_port served).mp (hs.sequencer.served o flight)
  obtain ⟨alone, room⟩ := sound.room locked
  by_cases barred : d.uncorrectable = true ∨ (s.port terms.port).orphan = true ∨
      (s.entry (pageOf terms.msg.addr)).mayWrite terms.port = false
  · rw [State.reserve_of_barred barred]
    exact hs.reservations
  · simp only [not_or, Bool.not_eq_true, Bool.not_eq_false] at barred
    obtain ⟨correctable, unmarked, writable⟩ := barred
    cases held : heldBy s.table.entries terms.port terms.msg.addr with
    | true =>
      rw [State.reserve_of_held correctable unmarked writable held]
      exact hs.reservations.of_places (restartTimers_map _ _ _ _ (fun _ => rfl) _) rfl rfl rfl
    | false =>
      rw [State.reserve_of_not_held correctable unmarked writable held]
      refine hs.reservations.append ?_ (fun named => ?_) sound.inRange (active unmarked) writable
      · exact ((noRoom_eq_false_iff _ _ _).mp room).resolve_right (by simp [held])
      · obtain ⟨e, stands, onWord⟩ := List.mem_map.mp named
        by_cases own : e.port = terms.port
        · exact nomatch held.symm.trans (heldBy_iff.mpr ⟨e, stands, onWord, own⟩)
        · have other : heldByOther s.table.entries terms.port terms.msg.addr = true :=
            List.any_eq_true.mpr ⟨e, stands, by simpa using And.intro onWord own⟩
          exact nomatch alone.symm.trans other

/-- After its reservation effect a LOCKED-READ has room for the entry it now has, or had. -/
theorem State.Live.reserve_room :
    heldByOther (s.reserve terms.port terms.msg.addr d).table.entries terms.port terms.msg.addr = false ∧
      noRoom (s.reserve terms.port terms.msg.addr d).table.entries terms.port terms.msg.addr = false := by
  have sound := (Operation.servedSound_of_port served).mp (hs.sequencer.served o flight)
  obtain ⟨alone, room⟩ := sound.room locked
  by_cases barred : d.uncorrectable = true ∨ (s.port terms.port).orphan = true ∨
      (s.entry (pageOf terms.msg.addr)).mayWrite terms.port = false
  · rw [State.reserve_of_barred barred]
    exact ⟨alone, room⟩
  · simp only [not_or, Bool.not_eq_true, Bool.not_eq_false] at barred
    obtain ⟨correctable, unmarked, writable⟩ := barred
    cases held : heldBy s.table.entries terms.port terms.msg.addr with
    | true =>
      rw [State.reserve_of_held correctable unmarked writable held]
      refine ⟨(heldByOther_restartTimers _ _ _ _ _ _).trans alone, (noRoom_eq_false_iff _ _ _).mpr (.inr ?_)⟩
      obtain ⟨e, stands, onWord, own⟩ := heldBy_iff.mp held
      have isOn : e.isOn terms.port terms.msg.addr = true := by simp [Reservation.isOn, onWord, own]
      exact heldBy_iff.mpr ⟨_, List.mem_map_of_mem stands, by simp [isOn, onWord], by simp [isOn, own]⟩
    | false =>
      rw [State.reserve_of_not_held correctable unmarked writable held]
      refine ⟨?_, (noRoom_eq_false_iff _ _ _).mpr (.inr (heldBy_iff.mpr ⟨_, List.mem_append_right _
        (List.mem_singleton.mpr rfl), rfl, rfl⟩))⟩
      simpa [heldByOther] using alone

theorem State.Live.reserve (active : (s.port terms.port).orphan = false → (s.port terms.port).state = .active) :
    (s.reserve terms.port terms.msg.addr d).Live := by
  have frame : s.ChangesOnly (s.reserve terms.port terms.msg.addr d) [.reservations, .parking] :=
    State.changesOnly_reserve
  have run := ((Operation.servedSound_of_port served).mp (hs.sequencer.served o flight)).running
  have control := frame .control (by decide)
  have port (q : Port) := frame.port_eq (by decide) q
  have sequencer : (s.reserve terms.port terms.msg.addr d).SequencerSound := by
    have flightAfter : (s.reserve terms.port terms.msg.addr d).sequencer = s.sequencer := frame .sequencer (by decide)
    have serves (q : Port) (serves : s.servesPort q) : (s.reserve terms.port terms.msg.addr d).servesPort q := by
      unfold State.servesPort
      rwa [flightAfter]
    have sound := (Operation.servedSound_of_port served).mp (hs.sequencer.served o flight)
    refine .of_flight (flightAfter.trans flight) (hs.sequencer.phase o flight)
      ((Operation.servedSound_of_port served).mpr ?_) (fun q granted => ?_) fun q marked => ?_
    · exact
        { sound with
          inRange := by rw [frame.size_eq (by decide)]; exact sound.inRange
          running := by rw [control]; exact run
          current := by rw [port]; exact sound.current
          room := fun _ => hs.reserve_room flight served locked }
    · rw [port] at granted ⊢
      obtain ⟨own, unmarked⟩ := hs.sequencer.granted q granted
      exact ⟨serves q own, unmarked⟩
    · rw [port] at marked
      exact serves q (hs.sequencer.orphan q marked)
  exact
    { high := (congrArg _ (frame .pins (by decide))).trans hs.high
      pins := hs.pins.of_states (frame .pins (by decide)) (congrArg _ control) fun q => congrArg _ (port q)
      entries := hs.entries.of_frame frame (by decide)
      offers := hs.offers.of_frame frame (by decide)
      reservations := hs.reserve_reservations flight served locked active
      parking := State.parkingSound_reserve hs.parking
      sequencer := sequencer
      clear := hs.clear.of_frame frame (by decide)
      items := by rw [control]; exact hs.items
      beforeRun := .of_run (by rw [control]; exact run) (by
        rw [frame.size_eq (by decide), frame .scrub (by decide)]
        exact hs.beforeRun.position)
      initClear := hs.initClear.of_frame frame (by decide) }

end

/-! ### The answer (R33, R124) -/

/-- The port that was served is answered, or loses its orphan mark, and the sequencer falls idle. -/
theorem State.Live.giveAnswer (hs : s.Live) (flight : s.sequencer = some o) (served : o.served = .port terms)
    (resp : Response) : ((s.giveAnswer terms resp).setSequencer none).Live := by
  have frame : s.ChangesOnly ((s.giveAnswer terms resp).setSequencer none) [.ports, .parking, .sequencer] :=
    (State.changesOnly_giveAnswer _).trans (State.changesOnly_setSequencer _)
  have quiet (q : Port) (other : q ≠ terms.port) := hs.sequencer.quiet_of_unserved (q := q) fun serves =>
    other ((State.servesPort_iff flight served).mp serves).symm
  have initClear := hs.initClear.of_frame frame (by decide)
  cases marked : (s.port terms.port).orphan with
  | true =>
    have notGranted : (s.port terms.port).isGranted = false := Bool.eq_false_iff.mpr fun granted =>
      nomatch marked.symm.trans (hs.sequencer.granted _ granted).2
    rw [State.giveAnswer_of_orphan resp marked] at frame initClear ⊢
    have here : ((s.setPort terms.port { s.port terms.port with orphan := false }).setSequencer none).port terms.port =
        { s.port terms.port with orphan := false } := State.port_setPort_same _ _ _
    have others : s.OthersStand ((s.setPort terms.port { s.port terms.port with orphan := false }).setSequencer none)
        terms.port := State.othersStand_setPort
    refine hs.of_states (frame.mono (by decide)) (fun q => ?_) (State.parkingSound_iff.mpr fun q => ?_)
      (.of_idle rfl fun q => ?_) initClear <;> by_cases same : q = terms.port
    · rw [same, here]
    · rw [others q same]
    · rw [same, here]
      exact State.parkingSound_iff.mp hs.parking _
    · rw [others q same]
      exact State.parkingSound_iff.mp hs.parking q
    · rw [same, here]
      exact ⟨notGranted, rfl⟩
    · rw [others q same]
      exact quiet q same
  | false =>
    rw [State.giveAnswer_of_not_orphan resp marked] at frame initClear ⊢
    have here : ((s.answer terms.port resp).setSequencer none).port terms.port =
        ((s.port terms.port).answered resp).becomeCurrent s.portCheck := State.port_answer_same _ _ _
    have others : s.OthersStand ((s.answer terms.port resp).setSequencer none) terms.port :=
      fun q other => State.port_answer_of_ne _ _ other
    refine hs.of_states (frame.mono (by decide)) (fun q => ?_) (State.parkingSound_answer hs.parking _ _)
      (.of_idle rfl fun q => ?_) initClear <;> by_cases same : q = terms.port
    · rw [same, here, PortRecord.becomeCurrent_state, PortRecord.answered_state]
    · rw [others q same]
    · rw [same, here, PortRecord.becomeCurrent_orphan, PortRecord.answered_orphan]
      refine ⟨Bool.eq_false_iff.mpr fun granted => ?_, marked⟩
      obtain ⟨m, current⟩ := PortRecord.isGranted_iff.mp granted
      exact PortRecord.becomeCurrent_not_granted (PortRecord.answered_current _ _) current
    · rw [others q same]
      exact quiet q same

/-! ### A whole completion -/

section
variable (hs : s.Live) (array : s.ArraySound) (flight : s.sequencer = some o)
include hs array flight

/-- An operation that serves a port completes (R124, R127). -/
theorem State.Live.complete_of_port (ports : s.PortsSound) (served : o.served = .port terms) : (s.complete o).Live := by
  have reported := hs.reported array flight
  have reportedFlight : (s.reported o).sequencer = some o := by simpa [State.reported] using flight
  have reserved : ((s.reported o).reserveOf o terms).Live := by
    unfold State.reserveOf
    split
    next d locked _ =>
      refine reported.reserve reportedFlight served locked fun unmarked => ?_
      rw [State.reported_port] at unmarked ⊢
      obtain ⟨m, current⟩ :=
        hs.sequencer.granted_of_serves ((State.servesPort_iff flight served).mpr rfl) unmarked
      exact (ports.sound _).active_of_current current
    next => exact reported
  have complete : s.complete o =
      (((s.reported o).reserveOf o terms).giveAnswer terms (responseOf o terms)).setSequencer none := by
    simp [State.complete, State.reported, State.servePort, served]
  rw [complete]
  exact reserved.giveAnswer (by simpa using reportedFlight) served _

/-- An operation of an engine completes, before the engine moves on (R124). -/
theorem State.Live.complete_of_engine (engine : ∀ terms, o.served ≠ .port terms) : (s.complete o).Live := by
  have reported := hs.reported array flight
  have reportedFlight : (s.reported o).sequencer = some o := by simpa [State.reported] using flight
  have complete : s.complete o = (s.reported o).setSequencer none := by
    cases served : o.served with
    | port terms => exact absurd served (engine terms)
    | refreshController | clearEngine | scrubEngine => simp [State.complete, State.reported, State.servePort, served]
  have frame : (s.reported o).ChangesOnly (s.complete o) [.sequencer] := by
    rw [complete]
    exact State.changesOnly_setSequencer _
  have quiet (q : Port) :=
    reported.sequencer.quiet_of_unserved (State.not_servesPort_of_engine (q := q) reportedFlight engine)
  rw [complete] at frame ⊢
  exact reported.of_states (frame.mono (by decide)) (fun _ => rfl) (reported.parking.of_frame frame (by decide))
    (.of_idle rfl quiet) (reported.initClear.of_frame frame (by decide))

theorem State.Live.complete (ports : s.PortsSound) : (s.complete o).Live := by
  cases served : o.served with
  | port terms => exact hs.complete_of_port array flight ports served
  | refreshController | clearEngine | scrubEngine =>
    exact hs.complete_of_engine array flight (by simp [served])

end

/-! ### The engines move on (R134, R143, R149) -/

section
variable (hs : s.Live) (idle : s.sequencer = none)
include hs idle

theorem State.SequencerSound.of_idle_frame {l : List Block} (frame : s.ChangesOnly t l)
    (apart : Apart [.ports, .sequencer] l) : t.SequencerSound := by
  have sequencer : t.sequencer = s.sequencer := frame .sequencer (apart _ (by decide))
  refine .of_idle (sequencer.trans idle) fun q => ?_
  rw [frame.port_eq (apart _ (by decide))]
  exact hs.sequencer.quiet_of_unserved (State.not_servesPort_of_idle idle)

theorem State.Live.refreshCompleted (r : RefreshController) : (s.setRefresh r).Live := by
  have frame : s.ChangesOnly (s.setRefresh r) [.refresh] := State.changesOnly_setRefresh r
  exact hs.of_states (frame.mono (by decide)) (fun _ => rfl) (hs.parking.of_frame frame (by decide))
    (.of_idle_frame hs idle frame (by decide)) (hs.initClear.of_frame frame (by decide))

end

theorem ScrubEngine.completed_position {e : ScrubEngine} {size : Nat} (inArray : e.position < size) :
    (e.completed size).position < size := by
  unfold ScrubEngine.completed
  split
  next inside => exact inside
  next => exact Nat.lt_of_le_of_lt (Nat.zero_le _) inArray

/-- The scrub engine may change in RUN, while its position names a word and no SCRUB loses it. -/
theorem State.Live.setScrub (hs : s.Live) (run : s.control.device = .run) {e : ScrubEngine}
    (inArray : e.position < s.size)
    (sequencer : (s.setScrub e).SequencerSound) : (s.setScrub e).Live :=
  have frame : s.ChangesOnly (s.setScrub e) [.scrub] := State.changesOnly_setScrub e
  { high := hs.high
    pins := hs.pins
    entries := hs.entries.of_frame frame (by decide)
    offers := hs.offers.of_frame frame (by decide)
    reservations := hs.reservations.of_frame frame (by decide)
    parking := hs.parking.of_frame frame (by decide)
    sequencer := sequencer
    clear := hs.clear.of_frame frame (by decide)
    items := hs.items
    beforeRun := .of_run run inArray
    initClear := .of_run run }

/-! #### The clear engine -/

section
variable (hs : s.Live) {rest : List Nat} (head : s.clear.queue = n :: rest)
  (cleared : s.array.read s.clear.nextWord = 0#40)
include hs head cleared

/-- In INIT the head of the queue is the first page left, and with its next word cleared one word more is (R145). -/
theorem State.Live.init_head (init : s.control.device = .init) :
    n < s.pageCount ∧ rest = List.range' (n + 1) (s.pageCount - (n + 1)) ∧
      ∀ b, b < n * Config.pageWords + s.clear.progress + 1 → s.array.read b = 0#40 := by
  obtain ⟨k, inMap, queue, zero⟩ := hs.initClear.clearing init hs.high
  obtain ⟨left, size⟩ : ∃ left, s.pageCount - k = left + 1 := ⟨s.pageCount - k - 1, by omega⟩
  rw [head, size, List.range'_succ] at queue
  obtain ⟨rfl, rest_⟩ := List.cons.inj queue
  have nextWord : s.clear.nextWord = n * Config.pageWords + s.clear.progress := by
    rw [ClearEngine.nextWord, head]
    rfl
  refine ⟨inMap, ?_, fun b before => ?_⟩
  · rw [rest_]
    congr 1
    omega
  · rcases Nat.lt_succ_iff_lt_or_eq.mp before with earlier | rfl
    · exact zero b earlier
    · rw [← nextWord]
      exact cleared

/-- A word inside the page (R143). -/
theorem State.Live.nextProgress (idle : s.sequencer = none) (inside : s.clear.progress + 1 < Config.pageWords) :
    (s.setClear { s.clear with progress := s.clear.progress + 1 }).Live := by
  have frame : s.ChangesOnly (s.setClear { s.clear with progress := s.clear.progress + 1 }) [.clear] :=
    State.changesOnly_setClear _
  have notSetup : s.control.device ≠ .setup := fun setup =>
    nomatch head.symm.trans (hs.beforeRun.setup setup)
  exact
    { high := hs.high
      pins := hs.pins
      entries := hs.entries.of_frame frame (by decide)
      offers := hs.offers.of_frame frame (by decide)
      reservations := hs.reservations.of_frame frame (by decide)
      parking := hs.parking.of_frame frame (by decide)
      sequencer := .of_idle_frame hs idle frame (by decide)
      clear := ⟨hs.clear.distinct, hs.clear.exact, inside, fun empty => nomatch head.symm.trans empty⟩
      items := hs.items
      beforeRun := ⟨hs.beforeRun.quiet, fun setup => absurd setup notSetup, hs.beforeRun.position⟩
      initClear := by
        refine ⟨fun init _ => ?_, fun setup => absurd setup notSetup⟩
        obtain ⟨inMap, left, zero⟩ := hs.init_head head cleared init
        refine ⟨n, inMap, ?queue, fun a before => zero a ?word⟩
        case word =>
          rw [Nat.add_assoc]
          exact before
        case queue =>
          change s.clear.queue = List.range' n (s.pageCount - n)
          obtain ⟨more, size⟩ : ∃ more, s.pageCount - n = more + 1 := ⟨s.pageCount - n - 1, by omega⟩
          rw [head, left, size, List.range'_succ]
          congr 2
          omega }

end

end Sys2Proof.Machine
end

section
/-! PROOF. The last word of a page (R143, R167), the timers that run out (R131, R147), and the control requests that change
the device state or an item (R168, R172, R173). -/
namespace Sys2Proof.Machine

variable {s t : State} {p q : Port} {m : Request} {o : Operation} {n : Nat} {rest : List Nat}

/-! ### The last word of a page -/

theorem State.finishPage_straps (s : State) (n : Nat) (rest : List Nat) :
    (s.finishPage n rest).control.straps = s.control.straps ∧
      (s.finishPage n rest).control.items = s.control.items := by
  unfold State.finishPage
  dsimp only
  split <;> exact ⟨rfl, rfl⟩

/-- The device state changes when INIT ends, and then the queue is empty (R167). -/
theorem State.finishPage_device (s : State) (n : Nat) (rest : List Nat) :
    (rest = [] ∧ s.control.device = .init ∧ (s.finishPage n rest).control.device = .setup) ∨
      ((rest ≠ [] ∨ s.control.device ≠ .init) ∧ (s.finishPage n rest).control.device = s.control.device) := by
  by_cases ends : rest = [] ∧ s.control.device = .init
  · rw [State.finishPage_of_ends ends.1 ends.2]
    exact .inl ⟨ends.1, ends.2, rfl⟩
  · have stays := Decidable.not_and_iff_not_or_not.mp ends
    rw [State.finishPage_of_stays stays]
    exact .inr ⟨stays, rfl⟩

section
variable (s n rest)

theorem State.changesOnly_finishPage :
    s.ChangesOnly (s.finishPage n rest) [.entries, .clear, .control, .records, .sequence, .lost, .lines, .asked] :=
  (State.changesOnly_pageFreed.trans (s.changesOnly_finishPage_of_pageFreed n rest)).mono (by simp)

theorem State.finishPage_clear : (s.finishPage n rest).clear = { queue := rest, progress := 0 } :=
  s.changesOnly_finishPage_of_pageFreed n rest .clear (by simp)

theorem State.entryBecomes_finishPage (inMap : n < s.pageMap.entries.length) :
    s.EntryBecomes (s.finishPage n rest) n { s.entry n with state := .free } :=
  State.entryBecomes_setEntry inMap (s.changesOnly_finishPage_of_pageFreed n rest .entries (by simp))

end

/-- The next page of the queue is another one (R140). -/
theorem State.ClearSound.finishPage (h : s.ClearSound) (head : s.clear.queue = n :: rest) :
    (s.finishPage n rest).ClearSound := by
  have distinct := h.distinct
  rw [head, List.nodup_cons] at distinct
  obtain ⟨inMap, -⟩ := (h.exact n).mp (by simp [head])
  obtain ⟨here, others, length⟩ := s.entryBecomes_finishPage n rest inMap
  have clear := s.finishPage_clear n rest
  refine ⟨?_, fun k => ?_, ?_, ?_⟩ <;> rw [clear]
  · exact distinct.2
  · rw [length]
    by_cases same : k = n
    · rw [same, here]
      exact iff_of_false distinct.1 (by simp)
    · rw [others k same, ← h.exact k, head]
      simp [same]
  · exact Nat.zero_lt_succ _
  · exact fun _ => rfl

/-- The words up to the end of a page are those before it and those of its progress, the last one included. -/
theorem lt_of_lt_page_end {w progress b : Nat} (last : w ≤ progress + 1) (before : b < (n + 1) * w) :
    b < n * w + progress + 1 := by
  rw [Nat.succ_mul] at before
  omega

/-- The configured array is whole pages (R170). -/
theorem State.size_eq_pages (s : State) : s.size = s.pageCount * Config.pageWords := by
  rw [State.pageCount, State.size, sizeOfCode_eq]
  split
  · rfl
  · split <;> rfl

section
variable (hs : s.Live) (head : s.clear.queue = n :: rest)
include hs head

theorem State.Live.finishPage_beforeRun : (s.finishPage n rest).BeforeRunSound := by
  have frame := s.changesOnly_finishPage n rest
  obtain ⟨inMap, -⟩ := (hs.clear.exact n).mp (by simp [head])
  obtain ⟨here, others, length⟩ := s.entryBecomes_finishPage n rest inMap
  have device := s.finishPage_device n rest
  refine ⟨fun outside => ?quiet, fun setup => ?setup, ?position⟩
  case quiet =>
    have before : s.control.device ≠ .run := by
      rcases device with ⟨-, init, -⟩ | ⟨-, same⟩
      · simp [init]
      · rwa [← same]
    obtain ⟨offers, reservations, pending, timer, entries⟩ := hs.beforeRun.quiet before
    rw [State.forall_mem_entries_iff] at entries ⊢
    have sameOffers : (s.finishPage n rest).pageMap.offers = s.pageMap.offers := frame .offers (by decide)
    have sameTable : (s.finishPage n rest).table.entries = s.table.entries := frame .reservations (by decide)
    rw [sameOffers, sameTable, frame .scrub (by decide), length]
    refine ⟨offers, reservations, pending, timer, fun k inMap' => ?_⟩
    by_cases same : k = n
    · obtain ⟨-, corrected, weak⟩ := entries n inMap
      rw [same, here]
      exact ⟨rfl, corrected, weak⟩
    · rw [others k same]
      exact entries k inMap'
  case setup =>
    rw [s.finishPage_clear n rest]
    rcases device with ⟨emptied, -⟩ | ⟨-, same⟩
    · exact emptied
    · exact nomatch head.symm.trans (hs.beforeRun.setup (same ▸ setup))
  case position =>
    rw [frame .scrub (by decide), State.size, (s.finishPage_straps n rest).1]
    exact hs.beforeRun.position

variable (cleared : s.array.read s.clear.nextWord = 0#40) (last : Config.pageWords ≤ s.clear.progress + 1)
include cleared last

/-- In INIT the page that is done is the lowest of those left; with the last one every word is cleared (R145, R167). -/
theorem State.Live.finishPage_initClear : (s.finishPage n rest).InitClearSound := by
  have frame := s.changesOnly_finishPage n rest
  have straps := (s.finishPage_straps n rest).1
  have size : (s.finishPage n rest).size = s.size := by rw [State.size, straps, State.size]
  have pages : (s.finishPage n rest).pageCount = s.pageCount := by rw [State.pageCount, size, State.pageCount]
  have array : (s.finishPage n rest).array = s.array := frame .array (by decide)
  have device := s.finishPage_device n rest
  refine ⟨fun init _ => ?clearing, fun setup => ?cleared⟩
  case clearing =>
    rcases device with ⟨-, -, setup⟩ | ⟨stays, same⟩
    · exact nomatch init.symm.trans setup
    · have before : s.control.device = .init := same ▸ init
      obtain ⟨inMap, left, zero⟩ := hs.init_head head cleared before
      have more : n + 1 < s.pageCount := by
        refine Nat.lt_of_not_le fun none_left => (stays.resolve_right (not_not_intro before)) ?_
        rw [left, Nat.sub_eq_zero_of_le none_left]
        rfl
      rw [pages, array, s.finishPage_clear n rest]
      refine ⟨n + 1, more, left, fun b before => zero b (lt_of_lt_page_end last ?_)⟩
      simpa only [Nat.add_zero] using before
  case cleared =>
    rw [size, array]
    rcases device with ⟨emptied, init, -⟩ | ⟨-, same⟩
    · obtain ⟨inMap, left, zero⟩ := hs.init_head head cleared init
      have none_left : s.pageCount - (n + 1) = 0 := by simpa [emptied] using left.symm
      intro b inArray
      refine zero b (lt_of_lt_page_end last (Nat.lt_of_lt_of_le inArray ?_))
      rw [s.size_eq_pages]
      exact Nat.mul_le_mul_right _ (Nat.sub_eq_zero_iff_le.mp none_left)
    · exact nomatch head.symm.trans (hs.beforeRun.setup (same ▸ setup))

theorem State.Live.finishPage (idle : s.sequencer = none) : (s.finishPage n rest).Live := by
  have frame := s.changesOnly_finishPage n rest
  obtain ⟨inMap, clearing⟩ := (hs.clear.exact n).mp (by simp [head])
  have unheld : (s.entry n).isHeld = false := PageEntry.isHeld_eq_false_iff.mpr (.inr clearing)
  have becomes := s.entryBecomes_finishPage n rest inMap
  have ⟨here, others, length⟩ := becomes
  have ports : (s.finishPage n rest).ports = s.ports := frame .ports (by decide)
  have port (q : Port) := frame.port_eq (by decide) q
  have table : (s.finishPage n rest).table.entries = s.table.entries := frame .reservations (by decide)
  have pins : (s.finishPage n rest).pins = s.pins := frame .pins (by decide)
  obtain ⟨straps, items⟩ := s.finishPage_straps n rest
  have states {e : PageEntry} (sound : e.Sound s) : e.Sound (s.finishPage n rest) :=
    sound.of_states fun q => congrArg _ (port q)
  exact
    { high := (congrArg _ pins).trans hs.high
      pins := hs.pins.of_states pins straps fun q => congrArg _ (port q)
      entries := hs.entries.of_entries (congrArg _ pins) straps length fun k _ sound => by
        by_cases same : k = n
        · subst same
          rw [here]
          exact states (sound.freed unheld)
        · rw [others k same]
          exact states sound
      offers := hs.offers.of_entryBecomes (frame .offers (by decide)) becomes (by simp [clearing])
        (fun offered => (nomatch clearing.symm.trans offered)) ports
      reservations := hs.reservations.of_sublist (by rw [table]) straps (fun r _ active => by rwa [port])
        fun r _ may => by
          by_cases same : pageOf r.addr = n
          · exact absurd (same ▸ may) (by simp [(PageEntry.no_right unheld).2])
          · rwa [others _ same]
      parking := hs.parking.of_frame frame (by decide)
      sequencer := .of_idle_frame hs idle frame (by decide)
      clear := hs.clear.finishPage head
      items := by rw [items]; exact hs.items
      beforeRun := hs.finishPage_beforeRun head
      initClear := hs.finishPage_initClear head cleared last }

end

/-- The clear engine moves on from a word that it has cleared (R143). -/
theorem State.Live.advanceClear (hs : s.Live) (idle : s.sequencer = none)
    (cleared : s.array.read s.clear.nextWord = 0#40) : s.advanceClear.Live := by
  unfold State.advanceClear
  split
  · exact hs
  next n rest head =>
    split
    next inside => exact hs.nextProgress head cleared idle inside
    next beyond => exact hs.finishPage head cleared (Nat.le_of_not_lt beyond) idle

/-! ### The completions of the engines (R134, R143, R149) -/

/-- The kind of an engine's operation tells the engine (R114, R115). -/
theorem Operation.ServedSound.served_eq (h : o.ServedSound s) :
    (o.kind = .refresh → o.served = .refreshController) ∧ (o.kind = .clear → o.served = .clearEngine) ∧
      (o.kind = .scrub → o.served = .scrubEngine) := by
  unfold Operation.ServedSound at h
  split at h
  next terms served =>
    have kinds := operationKind_cases h.kind.2 terms.guardMode (terms.msg.judgedAction terms.kind)
    rw [← h.operation] at kinds
    rcases kinds with kind | kind | kind | kind <;> simp [kind]
  all_goals simp_all

section
variable (hs : s.Live) (array : s.ArraySound) (ports : s.PortsSound)
include hs array ports

theorem State.Live.refreshCompletes (flight : s.InFlight o .refresh) :
    ((s.complete o).setRefresh (s.complete o).refresh.completed).Live :=
  (hs.complete array flight.1 ports).refreshCompleted rfl _

theorem State.Live.scrubCompletes (flight : s.InFlight o .scrub) :
    ((s.complete o).setScrub ((s.complete o).scrub.completed (s.complete o).size)).Live := by
  have completed := hs.complete array flight.1 ports
  have sound := hs.sequencer.served o flight.1
  have served := sound.served_eq.2.2 flight.2.1
  have run : s.control.device = .run := by
    simp only [Operation.ServedSound, served] at sound
    exact sound.2.2
  exact completed.setScrub (by rw [State.complete_control]; exact run)
    (ScrubEngine.completed_position completed.beforeRun.position)
    (.of_idle_frame completed rfl (State.changesOnly_setScrub _) (by decide))

theorem State.Live.clearCompletes (flight : s.InFlight o .clear) : (s.complete o).advanceClear.Live := by
  have sound := hs.sequencer.served o flight.1
  have served := sound.served_eq.2.1 flight.2.1
  simp only [Operation.ServedSound, served] at sound
  obtain ⟨-, target, -, settled⟩ := sound
  refine (hs.complete array flight.1 ports).advanceClear rfl ?_
  rw [State.complete_array, State.complete_clear, State.read_landWrite_of_zero array target settled, if_pos rfl]

end

/-! ### Timers (R131, R147) -/

/-- The owed count does not fall and the row stands, so that a REFRESH in flight stays sound (R131). -/
theorem State.Live.refreshRanOut (hs : s.Live) (interval : Nat) :
    (s.setRefresh (s.refresh.ranOut interval)).Live := by
  have frame : s.ChangesOnly (s.setRefresh (s.refresh.ranOut interval)) [.refresh] := State.changesOnly_setRefresh _
  have follows : s.Follows (s.setRefresh (s.refresh.ranOut interval)) :=
    { State.Follows.refl s with
      owed := fun owes => by
        change 1 ≤ if _ then _ else _
        split
        · exact Nat.le_add_left 1 _
        · exact owes }
  exact hs.of_states (frame.mono (by decide)) (fun _ => rfl) (hs.parking.of_frame frame (by decide))
    (hs.sequencer.of_ports rfl follows rfl) (hs.initClear.of_frame frame (by decide))

/-- A step of the scrub engine that leaves the position leaves a SCRUB in flight its word. -/
theorem State.Live.scrubRanOut (hs : s.Live) (running : s.scrub.timer.isRunning = true) (interval : Nat) :
    (s.setScrub { s.scrub with pending := true, timer := .running interval }).Live := by
  have run : s.control.device = .run := by
    refine Classical.byContradiction fun outside => ?_
    obtain ⟨-, -, -, stopped, -⟩ := hs.beforeRun.quiet outside
    rw [stopped] at running
    cases running
  have follows : s.Follows (s.setScrub { s.scrub with pending := true, timer := .running interval }) :=
    { State.Follows.refl s with position := fun _ => rfl }
  exact hs.setScrub run hs.beforeRun.position (hs.sequencer.of_ports rfl follows rfl)

/-! ### START and the items (R147, R168, R172, R173) -/

/-- The device enters RUN from SETUP, where only a REFRESH can be in flight. -/
theorem State.Live.enterRun (hs : s.Live) (setup : s.control.device = .setup) : (s.enterRun p).Live := by
  have frame : s.ChangesOnly (s.enterRun p) [.control, .scrub, .asked] :=
    ((State.changesOnly_setControl _).trans (State.changesOnly_setScrub _)).trans (State.changesOnly_ask _)
  have follows : s.Follows (s.enterRun p) :=
    { State.Follows.refl s with
      position := fun run => (nomatch setup.symm.trans run)
      device := fun _ => rfl }
  exact
    { high := hs.high
      pins := hs.pins.of_states rfl rfl fun _ => rfl
      entries := hs.entries.of_present rfl rfl rfl fun _ => id
      offers := hs.offers.of_frame frame (by decide)
      reservations := hs.reservations.of_states rfl rfl rfl fun _ => id
      parking := hs.parking.of_frame frame (by decide)
      sequencer := hs.sequencer.of_ports rfl follows rfl
      clear := hs.clear.of_frame frame (by decide)
      items := hs.items
      beforeRun := .of_run rfl (Nat.lt_of_le_of_lt (Nat.zero_le _) hs.beforeRun.position)
      initClear := .of_run rfl }

/-- Items that are written under a condition are sound when they are under the condition. -/
theorem ConfigItems.Sound.of_taken {inRange : Prop} [Decidable inRange] {items written : ConfigItems}
    (taken : (if inRange then some items else none) = some written) (sound : inRange → items.Sound) : written.Sound := by
  obtain ⟨holds, same⟩ := Option.ite_none_right_eq_some.mp taken
  exact Option.some.inj same ▸ sound holds

/-- A value is taken only within the range of its item (R172, R173). -/
theorem ConfigItems.Sound.write {items written : ConfigItems} (h : items.Sound) {value index : Nat}
    (taken : items.write value index = some written) : written.Sound := by
  unfold ConfigItems.write at taken
  split at taken
  case h_1 => exact .of_taken taken fun inRange => { h with refresh := inRange }
  case h_2 => exact .of_taken taken fun inRange => { h with scrub := inRange }
  case h_3 => exact .of_taken taken fun inRange => { h with reservation := inRange }
  case h_4 => exact .of_taken taken fun inRange => { h with offer := inRange }
  case h_7 => exact .of_taken taken fun inRange => { h with weak := inRange }
  case h_12 => cases taken
  all_goals exact .of_taken taken fun _ => { h with }

/-- An item is written; the rest of the control block stands. -/
theorem State.Live.setItems (hs : s.Live) {items : ConfigItems} (sound : items.Sound) :
    (s.setControl { s.control with items := items }).Live := by
  have frame : s.ChangesOnly (s.setControl { s.control with items := items }) [.control] :=
    State.changesOnly_setControl _
  have follows : s.Follows (s.setControl { s.control with items := items }) :=
    { State.Follows.refl s with device := id }
  exact
    { high := hs.high
      pins := hs.pins.of_states rfl rfl fun _ => rfl
      entries := hs.entries.of_present rfl rfl rfl fun _ => id
      offers := hs.offers.of_frame frame (by decide)
      reservations := hs.reservations.of_states rfl rfl rfl fun _ => id
      parking := hs.parking.of_frame frame (by decide)
      sequencer := hs.sequencer.of_ports rfl follows rfl
      clear := hs.clear.of_frame frame (by decide)
      items := sound
      beforeRun := hs.beforeRun.of_blocks rfl rfl rfl fun _ => ⟨rfl, rfl, rfl⟩
      initClear := hs.initClear.of_blocks rfl rfl rfl rfl rfl }

end Sys2Proof.Machine
end

section
/-! PROOF. The changes of NRST and PRST keep the invariant (R16 to R18, R32 to R35, R56, R78, R102). -/
namespace Sys2Proof.Machine

variable {s t : State} {p q : Port} {n : Nat}

/-! ### The PRST pin (R16, R18) -/

theorem State.setPrst_prst (high : Bool) :
    (s.setPrst p high).pins.prst.get q = if q = p then high else s.pins.prst.get q := by
  by_cases same : q = p <;> simp [State.setPrst, same]

theorem State.changesOnly_setPrst (high : Bool) : s.ChangesOnly (s.setPrst p high) [.pins] :=
  State.changesOnly_setPins _

/-- The pin of a port moves, and the port goes where the pin wants it: no other part looks at the pins. -/
theorem State.Live.setPrst (hs : s.Live) {high : Bool}
    (stays : (s.port p).state = .active ↔ s.control.straps.pen.get p = true ∧ high = true) : (s.setPrst p high).Live :=
  have frame : s.ChangesOnly (s.setPrst p high) [.pins] := State.changesOnly_setPrst high
  { high := hs.high
    pins := fun _ q => by
      obtain ⟨absent, active⟩ := hs.pins hs.high q
      rw [State.setPrst_prst]
      refine ⟨absent, ?_⟩
      by_cases same : q = p
      · rw [same, if_pos rfl]
        exact stays
      · rw [if_neg same]
        exact active
    entries := hs.entries.of_present rfl rfl rfl fun _ => id
    offers := hs.offers.of_frame frame (by decide)
    reservations := hs.reservations.of_frame frame (by decide)
    parking := hs.parking.of_frame frame (by decide)
    sequencer := hs.sequencer.of_frame frame (by decide)
    clear := hs.clear.of_frame frame (by decide)
    items := hs.items
    beforeRun := hs.beforeRun.of_frame frame (by decide)
    initClear := hs.initClear.of_blocks rfl rfl rfl rfl rfl }

/-! ### A port reset (R32, R33, R78, R102) -/

theorem State.port_portReset_same (s : State) (p : Port) : (s.portReset p).port p = (s.port p).portReset := by
  rw [State.port, State.portReset_ports, PerPort.get_set_same]

theorem State.othersStand_portReset (s : State) (p : Port) : s.OthersStand (s.portReset p) p := fun q other => by
  rw [State.port, State.portReset_ports, PerPort.get_set_of_ne _ _ other, State.port]

/-- What a port reset does to the entry of a page: a cut offer returns its page to HELD, and every other entry stands
(R78). -/
theorem State.OffersSound.portReset_entry (h : s.OffersSound) (p : Port) (n : Nat) :
    ((s.entry n).state = .offered ∧ n ∈ (offersOf p s.pageMap.offers).map OfferEntry.page ∧
        (s.portReset p).entry n = { s.entry n with state := .held }) ∨
      (n ∉ (offersOf p s.pageMap.offers).map OfferEntry.page ∧ (s.portReset p).entry n = s.entry n) := by
  by_cases cut : n ∈ (offersOf p s.pageMap.offers).map OfferEntry.page
  · obtain ⟨o, stands, -, rfl⟩ := mem_map_page_offersOf.mp cut
    exact .inl ⟨(h.offered _).mpr (List.mem_map_of_mem stands), cut,
      State.portReset_entry_of_cut s (h.lt_of_mem stands) cut⟩
  · exact .inr ⟨cut, State.portReset_entry_of_not_cut s cut⟩

theorem State.EntriesSound.portReset (h : s.EntriesSound) (offers : s.OffersSound) : (s.portReset p).EntriesSound := by
  have frame := s.changesOnly_portReset (p := p)
  refine h.of_entries (congrArg _ (frame .pins (by decide))) (congrArg _ (frame .control (by decide)))
    (s.portReset_length) fun n _ sound => ?_
  have present (q : Port) (there : (s.port q).state ≠ .absent) : ((s.portReset p).port q).state ≠ .absent := by
    by_cases same : q = p
    · rw [same, State.port_portReset_same]
      exact fun absent => nomatch absent
    · rwa [State.othersStand_portReset s p q same]
  rcases offers.portReset_entry p n with ⟨offered, -, entry⟩ | ⟨-, entry⟩ <;> rw [entry]
  · exact (sound.held (PageEntry.isHeld_iff.mpr (.inr offered)) (.inl rfl)).of_present present
  · exact sound.of_present present

/-- The offers that name the port are gone, and the others stand (R78). -/
theorem State.OffersSound.portReset (h : s.OffersSound) : (s.portReset p).OffersSound := by
  have left {o : OfferEntry} : o ∈ offersWithout p s.pageMap.offers ↔
      o ∈ s.pageMap.offers ∧ ¬ (o.fromPort = p ∨ o.toPort = p) := by
    simp [offersWithout, OfferEntry.names]
  have uncut {o : OfferEntry} (stands : o ∈ offersWithout p s.pageMap.offers) :
      o.page ∉ (offersOf p s.pageMap.offers).map OfferEntry.page := by
    intro cut
    obtain ⟨stood, other⟩ := left.mp stands
    obtain ⟨o', stood', names, page⟩ := mem_map_page_offersOf.mp cut
    exact other (List.inj_on_of_nodup_map h.distinct stood' stood page ▸ names)
  have sub : (offersWithout p s.pageMap.offers).Sublist s.pageMap.offers := List.filter_sublist
  refine ⟨?_, ?_, fun n => ?_, fun o stands => ?_, fun o stands => ?_⟩
  all_goals rw [State.portReset_offers] at *
  · exact Nat.le_trans sub.length_le h.room
  · exact h.distinct.sublist (sub.map _)
  · rcases h.portReset_entry p n with ⟨-, cut, entry⟩ | ⟨notCut, entry⟩ <;> rw [entry]
    · refine iff_of_false (by simp) fun named => ?_
      obtain ⟨o, stands, rfl⟩ := List.mem_map.mp named
      exact uncut stands cut
    · rw [h.offered n, List.mem_map, List.mem_map]
      refine exists_congr fun o => and_congr_left fun page => ⟨fun stands => left.mpr ⟨stands, fun names => ?_⟩,
        fun stands => (left.mp stands).1⟩
      exact notCut (mem_map_page_offersOf.mpr ⟨o, stands, names, page⟩)
  · rw [State.portReset_entry_of_not_cut s (uncut stands)]
    exact h.owner o (left.mp stands).1
  · obtain ⟨stood, other⟩ := left.mp stands
    obtain ⟨giver, taker⟩ := not_or.mp other
    rw [State.othersStand_portReset s p _ giver, State.othersStand_portReset s p _ taker]
    exact h.parties o stood

/-- The port's own reservations are gone, and a page that returns to HELD gives the rights it gave (R44, R102). -/
theorem State.ReservationsSound.portReset (h : s.ReservationsSound) (offers : s.OffersSound) :
    (s.portReset p).ReservationsSound := by
  have frame := s.changesOnly_portReset (p := p)
  refine h.of_sublist (by rw [State.portReset_reservations]; exact List.filter_sublist)
    (congrArg _ (frame .control (by decide))) (fun r stands activeBefore => ?_) fun r _ may => ?_
  · rw [State.portReset_reservations] at stands
    have other : r.port ≠ p := by simpa using (List.mem_filter.mp stands).2
    rwa [State.othersStand_portReset s p _ other]
  · rcases offers.portReset_entry p (pageOf r.addr) with ⟨-, -, entry⟩ | ⟨-, entry⟩ <;> rw [entry]
    · exact PageEntry.mayWrite_iff.mpr ⟨.inl rfl, (PageEntry.mayWrite_iff.mp may).2⟩
    · exact may

/-- The operation of the port goes on under the orphan mark (R33). -/
theorem State.SequencerSound.portReset (h : s.SequencerSound) (reservations : s.ReservationsSound) :
    (s.portReset p).SequencerSound := by
  have frame := s.changesOnly_portReset (p := p)
  have control : (s.portReset p).control = s.control := frame .control (by decide)
  have here := s.port_portReset_same p
  have others := s.othersStand_portReset p
  have follows : s.Follows (s.portReset p) :=
    { row := by rw [frame .refresh (by decide)]
      owed := fun owes => by rwa [frame .refresh (by decide)]
      queue := fun queued => by
        rw [frame .clear (by decide)]
        exact ⟨queued, rfl⟩
      position := fun _ => by rw [frame .scrub (by decide)]
      device := fun run => by rwa [control]
      straps := congrArg _ control
      room := fun q _ => room_of_sublist (by rw [State.portReset_reservations]; exact List.filter_sublist)
        (reservations.perPort q) }
  refine h.of_follows (frame .sequencer (by decide)) follows (fun q serves unmarked => ?_)
    (fun q granted => ?_) fun q marked => ?_ <;> by_cases same : q = p
  · subst same
    rw [here] at unmarked
    obtain ⟨noMark, notGranted⟩ := Bool.or_eq_false_iff.mp unmarked
    have granted := PortRecord.isGranted_iff.mpr (h.granted_of_serves serves noMark)
    exact nomatch notGranted.symm.trans granted
  · rw [others q same] at unmarked ⊢
    exact ⟨unmarked, rfl⟩
  · subst same
    rw [here] at granted
    cases granted
  · rw [others q same] at granted ⊢
    exact ⟨granted, rfl⟩
  · subst same
    rw [here] at marked
    exact Bool.or_eq_true_iff.mp marked
  · rw [others q same] at marked
    exact .inl marked

theorem State.ClearSound.portReset (h : s.ClearSound) (offers : s.OffersSound) : (s.portReset p).ClearSound := by
  have frame := s.changesOnly_portReset (p := p)
  refine h.of_entries (frame .clear (by decide)) s.portReset_length fun n _ => ?_
  rcases offers.portReset_entry p n with ⟨offered, -, entry⟩ | ⟨-, entry⟩ <;> rw [entry]
  simp [offered]

/-- Before RUN there is no offer to cut and no reservation to drop (R71, R103). -/
theorem State.BeforeRunSound.portReset (h : s.BeforeRunSound) : (s.portReset p).BeforeRunSound := by
  have frame := s.changesOnly_portReset (p := p)
  have control : (s.portReset p).control = s.control := frame .control (by decide)
  refine h.of_blocks (congrArg _ control) (congrArg _ control) (frame .scrub (by decide)) fun outside => ?_
  obtain ⟨offers, reservations, -⟩ := h.quiet outside
  refine ⟨?_, by rw [State.portReset_reservations, reservations]; rfl, frame .clear (by decide)⟩
  have entriesStand : (s.portReset p).pageMap.entries = s.pageMap.entries := by
    rw [State.portReset_entries, offers]
    rfl
  have offersStand : (s.portReset p).pageMap.offers = s.pageMap.offers := by
    rw [State.portReset_offers, offers]
    rfl
  cases t : (s.portReset p).pageMap
  cases u : s.pageMap
  simp_all

/-- The port falls into RESET with its pin (R32). -/
theorem State.Live.portReset (hs : s.Live) (active : (s.port p).state = .active) :
    ((s.setPrst p false).portReset p).Live := by
  have fallen : s.ChangesOnly (s.setPrst p false) [.pins] := State.changesOnly_setPrst false
  have frame := (s.setPrst p false).changesOnly_portReset (p := p)
  have pins : ((s.setPrst p false).portReset p).pins = (s.setPrst p false).pins := frame .pins (by decide)
  have control : ((s.setPrst p false).portReset p).control = s.control := frame .control (by decide)
  have offers : (s.setPrst p false).OffersSound := hs.offers.of_frame fallen (by decide)
  have reservations : (s.setPrst p false).ReservationsSound := hs.reservations.of_frame fallen (by decide)
  exact
    { high := (congrArg _ pins).trans hs.high
      pins := fun _ q => by
        have stood := hs.pins hs.high q
        rw [control, pins, State.setPrst_prst]
        by_cases same : q = p
        · subst same
          have present : s.control.straps.pen.get q = true := (stood.2.mp active).1
          rw [State.port_portReset_same, if_pos rfl, present]
          exact ⟨iff_of_false (fun absent => nomatch absent) (by simp),
            iff_of_false (fun active => nomatch active) (by simp)⟩
        · rw [State.othersStand_portReset _ p q same, if_neg same]
          exact stood
      entries := .portReset (hs.entries.of_present rfl rfl rfl fun _ => id) offers
      offers := offers.portReset
      reservations := reservations.portReset offers
      parking := State.parkingSound_portReset _
      sequencer := .portReset (hs.sequencer.of_frame fallen (by decide)) reservations
      clear := .portReset (hs.clear.of_frame fallen (by decide)) offers
      items := by rw [control]; exact hs.items
      beforeRun := .portReset (hs.beforeRun.of_frame fallen (by decide))
      initClear := hs.initClear.of_blocks (congrArg _ control) (congrArg _ control) (by rw [pins]; rfl)
        (frame .clear (by decide)) (frame .array (by decide)) }

theorem execPrstFalls_live (hs : s.Live) : Answers (execPrstFalls p s) State.Live := by
  unfold execPrstFalls
  split
  next falls =>
    obtain ⟨-, active⟩ := Bool.and_eq_true_iff.mp falls
    exact (answers_next _).mpr (hs.portReset (State.isActive_iff.mp active))
  next stays =>
    have inactive : (s.port p).state ≠ .active := by simpa [hs.high, State.isActive] using stays
    exact (answers_next _).mpr (hs.setPrst (iff_of_false inactive (by simp)))

/-! ### A port enters ACTIVE (R35) -/

theorem State.port_enterActive_same (s : State) (p : Port) : (s.enterActive p).port p = (s.port p).enterActive :=
  State.port_setPort_same _ _ _

theorem State.othersStand_enterActive (s : State) (p : Port) : s.OthersStand (s.enterActive p) p :=
  fun _ other => State.port_setPort_of_ne _ _ other

/-- A port in RESET holds nothing (R32), so it enters ACTIVE with nothing to serve. -/
theorem State.Live.enterActive (hs : s.Live) (ports : s.PortsSound) (reset : (s.port p).state = .reset) :
    ((s.setPrst p true).enterActive p).Live := by
  have risen : s.ChangesOnly (s.setPrst p true) [.pins] := State.changesOnly_setPrst true
  have frame : s.ChangesOnly ((s.setPrst p true).enterActive p)
      [.pins, .ports, .records, .sequence, .lost, .lines, .asked] := risen.trans State.changesOnly_enterActive
  have here : ((s.setPrst p true).enterActive p).port p = (s.port p).enterActive :=
    (s.setPrst p true).port_enterActive_same p
  have others : s.OthersStand ((s.setPrst p true).enterActive p) p := (s.setPrst p true).othersStand_enterActive p
  have idle : (s.port p).current = none := by
    refine Option.eq_none_iff_forall_ne_some.mpr fun c busy => ?_
    exact nomatch reset.symm.trans ((ports.sound p).active_of_current busy)
  have currents (q : Port) : (((s.setPrst p true).enterActive p).port q).current = (s.port q).current := by
    by_cases same : q = p
    · rw [same, here, idle]
      rfl
    · rw [others q same]
  have orphans (q : Port) : (((s.setPrst p true).enterActive p).port q).orphan = (s.port q).orphan := by
    by_cases same : q = p
    · rw [same, here]
      rfl
    · rw [others q same]
  have activeStill (q : Port) (active : (s.port q).state = .active) :
      (((s.setPrst p true).enterActive p).port q).state = .active := by
    by_cases same : q = p
    · rw [same, here]
      rfl
    · rwa [others q same]
  have isGranted (q : Port) : (((s.setPrst p true).enterActive p).port q).isGranted = (s.port q).isGranted := by
    rw [PortRecord.isGranted, currents q, PortRecord.isGranted]
  exact
    { high := hs.high
      pins := fun _ q => by
        have stood := hs.pins hs.high q
        have prst := s.setPrst_prst (p := p) (q := q) true
        by_cases same : q = p
        · subst same
          have present : s.control.straps.pen.get q = true := by
            refine Bool.of_not_eq_false fun absent => ?_
            exact nomatch reset.symm.trans (stood.1.mpr absent)
          rw [if_pos rfl] at prst
          rw [here]
          exact ⟨iff_of_false (fun absent => nomatch absent) fun low => (nomatch present.symm.trans low),
            iff_of_true rfl ⟨present, prst⟩⟩
        · rw [if_neg same] at prst
          rw [others q same]
          exact ⟨stood.1, stood.2.trans (and_congr_right fun _ => by simp [prst])⟩
      entries := hs.entries.of_present rfl rfl rfl fun q there => by
        by_cases same : q = p
        · rw [same, here]
          exact fun absent => nomatch absent
        · rwa [others q same]
      offers := hs.offers.of_states rfl rfl activeStill
      reservations := hs.reservations.of_states rfl rfl rfl activeStill
      parking := State.parkingSound_iff.mpr fun q => by
        rw [currents q]
        exact State.parkingSound_iff.mp hs.parking q
      sequencer := hs.sequencer.of_follows rfl (frame.follows (by decide))
        (fun q _ unmarked => ⟨orphans q ▸ unmarked, currents q⟩)
        (fun q granted => ⟨isGranted q ▸ granted, orphans q⟩) fun q marked => .inl (orphans q ▸ marked)
      clear := hs.clear.of_frame frame (by decide)
      items := hs.items
      beforeRun := hs.beforeRun.of_frame frame (by decide)
      initClear := hs.initClear.of_blocks rfl rfl rfl rfl rfl }

theorem execPrstRises_live (hs : s.Live) (ports : s.PortsSound) : Answers (execPrstRises p s) State.Live := by
  unfold execPrstRises
  split
  next rises =>
    obtain ⟨-, reset⟩ := Bool.and_eq_true_iff.mp rises
    exact (answers_next _).mpr (hs.enterActive ports (of_decide_eq_true reset))
  next stays =>
    have notReset : (s.port p).state ≠ .reset := by simpa [hs.high] using stays
    obtain ⟨absent, active⟩ := hs.pins hs.high p
    refine (answers_next _).mpr (hs.setPrst ?_)
    cases state : (s.port p).state with
    | absent => exact iff_of_false (by simp) (by simp [absent.mp state])
    | reset => exact absurd state notReset
    | active => exact iff_of_true rfl ⟨(active.mp state).1, rfl⟩

end Sys2Proof.Machine
end

section
/-! PROOF. With NRST high every command but NRST_FALLS leaves the part with NRST high and the invariant standing. -/
namespace Sys2Proof.Machine

variable {s t : State} {p : Port} {m : Request} {k : RequestKind} {P : State → Prop} {verdict : Option Status}

/-! ### What a command finds before it acts -/

/-- A command that serves a port's request serves one that waits in ROUTED (log entry 9). -/
theorem answers_routed {f : Request → Host.Outcome State Fault Refusal} (stands : P s)
    (serves : ∀ m, s.Routed p m k → Answers (f m) P) :
    Answers (match s.routed p k with | none => .next s | some m => f m) P := by
  cases found : s.routed p k with
  | none => exact (answers_next _).mpr stands
  | some m => exact serves m (s.routed_some found)

/-- A completion finds an operation of its kind whose last phase has run (R114). -/
theorem answers_completing {kind : OpKind} {f : Operation → State} (stands : P s)
    (completes : ∀ o, s.InFlight o kind → P (f o)) :
    Answers (match s.completing kind with | none => .next s | some o => .next (f o)) P := by
  cases found : s.completing kind with
  | none => exact (answers_next _).mpr stands
  | some o =>
    refine (answers_next _).mpr (completes o ?_)
    unfold State.completing at found
    split at found
    · cases found
    next o' flight =>
      obtain ⟨⟨kind, last⟩, same⟩ := Option.ite_none_right_eq_some.mp found
      cases same
      exact ⟨flight, kind, last⟩

/-- A judged request leaves a part that meets a condition when its refusals do, and its success where it passes (R60). -/
theorem answers_verdict (refused : ∀ st, P (s.answerStatus p m st))
    (passed : verdict = none → P (t.answerStatus p m .ok)) :
    Answers (match (generalizing := false) verdict with
      | some st => .next (s.answerStatus p m st)
      | none => .next (t.answerStatus p m .ok)) P := by
  cases verdict with
  | none => exact (answers_next _).mpr (passed rfl)
  | some st => exact (answers_next _).mpr (refused st)

/-- A command that acts under a condition. -/
theorem answers_chosen {c : Prop} [Decidable c] (stands : P s) (acts : c → P t) :
    Answers (if c then .next t else .next s) P := by
  split
  next chosen => exact (answers_next _).mpr (acts chosen)
  next => exact (answers_next _).mpr stands

/-! ### NRST rises (R16, R17, R56, R145, R170) -/

theorem State.port_afterRise_quiet (s : State) (msize : BitVec 2) (pen : PortSet) (p : Port) :
    ((s.afterRise msize pen).port p).current = none ∧ ((s.afterRise msize pen).port p).orphan = false := by
  rw [State.port_afterRise]
  cases pen.get p <;> cases s.pins.prst.get p <;> exact ⟨rfl, rfl⟩

theorem PageEntry.sound_afterColdReset : PageEntry.afterColdReset.Sound s where
  owned held := nomatch held
  unowned _ := ⟨rfl, rfl, rfl, rfl⟩
  nested q written := by simp [PageEntry.afterColdReset] at written
  notOwner q reads := by simp [PageEntry.afterColdReset] at reads
  present q named := by simp [PageEntry.afterColdReset] at named
  count := Nat.zero_le _

/-- The defaults lie in their ranges (R172). -/
theorem ConfigItems.sound_defaults : ConfigItems.defaults.Sound :=
  ⟨by decide, by decide, by decide, by decide, by decide⟩

theorem sizeOfCode_pos (msize : BitVec 2) : 0 < sizeOfCode msize / Config.pageWords := by
  rw [sizeOfCode_div_pageWords]
  split
  · decide
  · split <;> decide

theorem State.live_afterRise (s : State) (msize : BitVec 2) (pen : PortSet) : (s.afterRise msize pen).Live := by
  have quiet := s.port_afterRise_quiet msize pen
  have entry := s.afterRise_entry msize pen
  have entries {e : PageEntry} (listed : e ∈ (s.afterRise msize pen).pageMap.entries) : e = .afterColdReset :=
    List.eq_of_mem_replicate listed
  have pages : 0 < (s.afterRise msize pen).pageCount := sizeOfCode_pos msize
  have size : (s.afterRise msize pen).size = sizeOfCode msize := rfl
  exact
    { high := rfl
      pins := fun _ p => by
        rw [State.port_afterRise]
        change (_ ↔ pen.get p = false) ∧ (_ ↔ pen.get p = true ∧ s.pins.prst.get p = true)
        cases pen.get p <;> cases s.pins.prst.get p <;>
          simp [portAtRise, PortRecord.inReset, PortRecord.enterActive]
      entries :=
        { count := fun _ => List.length_replicate
          sound := fun e listed => entries listed ▸ PageEntry.sound_afterColdReset }
      offers :=
        { room := Nat.zero_le _
          distinct := List.nodup_nil
          offered := fun n => by
            rw [entry]
            exact iff_of_false (fun offered => nomatch offered) List.not_mem_nil
          owner := fun o listed => nomatch listed
          parties := fun o listed => nomatch listed }
      reservations :=
        { perPort := fun _ => Nat.zero_le _
          distinct := List.nodup_nil
          inRange := fun e listed => nomatch listed
          active := fun e listed => nomatch listed
          writable := fun e listed => nomatch listed }
      parking := State.parkingSound_iff.mpr fun p => by
        rw [(quiet p).1]
        exact PerPort.get_all _ p
      sequencer := .of_idle rfl fun p => ⟨by rw [PortRecord.isGranted, (quiet p).1]; rfl, (quiet p).2⟩
      clear :=
        { distinct := List.nodup_range
          exact := fun n => by
            rw [entry]
            change n ∈ List.range _ ↔ n < (List.replicate _ _).length ∧ _
            rw [List.mem_range, List.length_replicate]
            exact (and_iff_left rfl).symm
          progress := Nat.zero_lt_succ _
          empty := fun _ => rfl }
      items := ConfigItems.sound_defaults
      beforeRun :=
        { quiet := fun _ => ⟨rfl, rfl, rfl, rfl, fun e listed => entries listed ▸ ⟨rfl, rfl, rfl⟩⟩
          setup := fun setup => nomatch setup
          position := by
            rw [State.size_eq_pages]
            exact Nat.mul_pos pages (Nat.zero_lt_succ _) }
      initClear :=
        { clearing := fun _ _ => ⟨0, pages, List.range_eq_range', fun a before => by
            simp [State.afterRise] at before⟩
          cleared := fun setup => nomatch setup } }

/-! ### The commands -/

section
variable (hs : s.Live) (array : s.ArraySound) (ports : s.PortsSound)
include hs ports

theorem portGrant_live {i : Instr} (grant : (i, k) ∈ portGrants p) (memory : k.isMemory = true) :
    Answers (exec i s) State.Live := by
  rw [exec_portGrant grant, answers_next]
  cases granted : s.grantable p k with
  | none => exact hs
  | some m =>
    obtain ⟨chosen, routed⟩ := Option.ite_none_right_eq_some.mp granted
    obtain ⟨-, unparked, -⟩ := State.stands_of_chosen chosen
    exact hs.grantOf (s.routed_some routed) memory ports (State.idle_of_chosen chosen) unparked

/-- A page request, judged and answered; it waits in ROUTED only in RUN (R26, R60). -/
theorem answers_pageRequest {judge : Request → Option Status} {success : Request → State} (page : k.isPage = true)
    (passed : ∀ m, s.Routed p m k → s.control.device = .run → judge m = none → (success m).Live)
    (stand : ∀ m, (success m).ports = s.ports) :
    Answers (match s.routed p k with
      | none => .next s
      | some m =>
        match judge m with
        | some st => .next (s.answerStatus p m st)
        | none => .next ((success m).answerStatus p m .ok)) State.Live := by
  refine answers_routed hs fun m routed => answers_verdict (fun _ => hs.answer routed _) fun verdict => ?_
  have run := ports.run_of_routed routed (RequestKind.needsRun_iff.mpr (.inr (.inr page)))
  have still : (success m).Routed p m k := ⟨by rw [State.port_congr (stand m)]; exact routed.1, routed.2⟩
  exact (passed m routed run verdict).answer still _

end

/-! #### The log and the control requests -/

theorem State.changesOnly_setLog (l : NoticeLog) :
    s.ChangesOnly (s.setLog l) [.records, .sequence, .lost, .lines, .asked] := by
  intro b hb
  cases b <;> first | rfl | exact absurd (by simp) hb

section
variable (hs : s.Live)
include hs

theorem State.Live.setLog (l : NoticeLog) : (s.setLog l).Live := hs.of_frame (State.changesOnly_setLog l) (by decide)

theorem State.Live.writeLostCount (routed : s.Routed p m k) : (s.writeLostCount p m).Live := by
  unfold State.writeLostCount
  split
  · exact (hs.setLog { s.log with lost := 0 }).answer (k := k) routed _
  · exact hs.answer routed _

theorem State.Live.writeItem (routed : s.Routed p m k) : (s.writeItem p m).Live := by
  unfold State.writeItem
  split
  · exact hs.answer routed _
  · split
    · exact hs.answer routed _
    next items written => exact (hs.setItems (hs.items.write written)).answer (k := k) routed _

theorem execStart_live : Answers (execStart p s) State.Live := by
  refine answers_routed hs fun m routed => ?_
  cases device : s.control.device with
  | setup => exact (answers_next _).mpr ((hs.enterRun device).answer (k := .start) routed _)
  | init | run => exact (answers_next _).mpr (hs.answer routed _)

theorem execFetchNotice_live : Answers (execFetchNotice p s) State.Live := by
  refine answers_routed hs fun m routed => ?_
  split
  · exact (answers_next _).mpr (hs.answer routed _)
  next i records _ =>
    exact (answers_next _).mpr ((hs.setLog (s.log.fetched p records)).answer (k := .fetchNotice) routed _)

theorem execUnlock_live : Answers (execUnlock p s) State.Live := by
  refine answers_routed hs fun m routed => ?_
  have dropped := hs.dropReservations (Reservation.isOn p m.addr)
  exact answers_ite (dropped.answer (k := .unlock) routed _) (hs.answer routed _)

theorem execReadingEnds_live (flips : StoredWord) : Answers (execReadingEnds flips s) State.Live := by
  unfold execReadingEnds
  split
  · exact (answers_next _).mpr hs
  next o flight =>
    split
    · exact (answers_next _).mpr hs
    next a reading => exact (answers_next _).mpr (hs.endReading flight reading flips)

theorem execOfferLifetimeRunsOut_live (page : Nat) : Answers (execOfferLifetimeRunsOut page s) State.Live := by
  unfold execOfferLifetimeRunsOut
  split
  · exact (answers_next _).mpr hs
  next o offer =>
    have stands := List.mem_of_find?_eq_some offer
    have named : o.page = page := by simpa using List.find?_some offer
    have offered : (s.entry page).state = .offered :=
      named ▸ (hs.offers.offered o.page).mpr (List.mem_map_of_mem stands)
    have run : s.control.device = .run := by
      refine Classical.byContradiction fun outside => ?_
      obtain ⟨none_offered, -⟩ := hs.beforeRun.quiet outside
      rw [none_offered] at stands
      cases stands
    exact (answers_next _).mpr ((hs.endOffer run offered).ask _)

theorem execRefreshIntervalRunsOut_live : Answers (execRefreshIntervalRunsOut s) State.Live := by
  refine answers_ite ?_ hs
  have ranOut := hs.refreshRanOut s.control.items.refreshInterval
  split
  · exact ranOut
  · exact ranOut.ask _

end

/-! #### Every command -/

section
variable (hs : s.Live) (array : s.ArraySound) (ports : s.PortsSound)
include hs array ports

/-- Every command but NRST_FALLS. -/
theorem exec_live (i : Instr) (high : i ≠ .nrstFalls) : Answers (exec i s) State.Live := by
  have present {p : Port} {m : Request} {k : RequestKind} (routed : s.Routed p m k) : (s.port p).state ≠ .absent := by
    simp [ports.active_of_routed routed]
  cases i with
  | nrstFalls => exact absurd rfl high
  | nrstRises msize pen => exact answers_ite hs (s.live_afterRise msize pen)
  | prstFalls p => exact execPrstFalls_live hs
  | prstRises p => exact execPrstRises_live hs ports
  | linkUpDelivered p => exact answers_ite (hs.setPort_of_current rfl rfl rfl) hs
  | requestArrives p w0 w1 w2 => exact answers_ite hs.arrive hs
  | responseDelivered p => exact answers_ite hs.deliver hs
  | read p => exact portGrant_live hs ports (p := p) (k := .read) (by simp [portGrants]) rfl
  | write p => exact portGrant_live hs ports (p := p) (k := .write) (by simp [portGrants]) rfl
  | mergeWrite p => exact portGrant_live hs ports (p := p) (k := .mergeWrite) (by simp [portGrants]) rfl
  | lockedRead p => exact portGrant_live hs ports (p := p) (k := .lockedRead) (by simp [portGrants]) rfl
  | condWrite p => exact portGrant_live hs ports (p := p) (k := .condWrite) (by simp [portGrants]) rfl
  | refreshGrant => exact answers_chosen hs hs.refreshGrant
  | clearGrant => exact answers_chosen hs hs.clearGrant
  | scrubGrant => exact answers_chosen hs hs.scrubGrant
  | readingEnds flips => exact execReadingEnds_live hs flips
  | readOpCompletes | storeCompletes | checkedStoreCompletes | mergeCompletes =>
    exact answers_completing hs fun o flight => hs.complete array flight.1 ports
  | refreshCompletes => exact answers_completing hs fun o => hs.refreshCompletes array ports
  | clearCompletes => exact answers_completing hs fun o => hs.clearCompletes array ports
  | scrubCompletes => exact answers_completing hs fun o => hs.scrubCompletes array ports
  | refreshIntervalRunsOut => exact execRefreshIntervalRunsOut_live hs
  | scrubIntervalRunsOut => exact answers_chosen hs fun running => hs.scrubRanOut running _
  | reservationLifetimeRunsOut addr => exact answers_ite (hs.dropReservations _) hs
  | offerLifetimeRunsOut page => exact execOfferLifetimeRunsOut_live hs page
  | unlock p => exact execUnlock_live hs
  | claim p =>
    exact answers_pageRequest hs ports rfl (fun m routed run free => hs.claim run free (present routed) m.guardMode)
      fun _ => rfl
  | grant p =>
    exact answers_pageRequest hs ports rfl (fun m _ run passed => hs.grantRight run passed m.rightWrite)
      fun m => s.grantRight_ports _ _ _
  | revoke p => exact answers_pageRequest hs ports rfl (fun m _ run passed => hs.revoke run passed) fun _ => rfl
  | offer p =>
    exact answers_pageRequest hs ports rfl
      (fun m routed run passed => hs.makeOffer run passed (ports.active_of_routed routed)) fun _ => rfl
  | withdraw p =>
    exact answers_pageRequest hs ports rfl (fun m _ run passed => hs.endOffer run (judgeWithdraw_eq_none passed))
      fun _ => rfl
  | release p =>
    exact answers_pageRequest hs ports rfl (fun m _ run passed => hs.giveUp run passed m.clearOption)
      fun m => s.giveUp_ports _ _
  | accept p =>
    refine answers_routed hs fun m routed => ?_
    split
    · exact (answers_next _).mpr (hs.answer routed _)
    next o taken =>
      obtain ⟨-, offered, -⟩ := State.offerTo_eq_some_iff.mp taken
      have run := ports.run_of_routed routed rfl
      exact (answers_next _).mpr ((hs.takeOver run offered (present routed) o).answer (k := .accept) routed _)
  | pageQuery p => exact answers_routed hs fun m routed => (answers_next _).mpr (hs.answer routed _)
  | fetchNotice p => exact execFetchNotice_live hs
  | ctlRead p =>
    exact answers_routed hs fun m routed => by split <;> exact (answers_next _).mpr (hs.answer routed _)
  | ctlWrite p =>
    refine answers_routed hs fun m routed => ?_
    split
    · exact (answers_next _).mpr (hs.writeLostCount routed)
    · exact answers_ite (hs.writeItem routed) (hs.answer routed _)
  | lostCount p => exact answers_routed hs fun m routed => answers_ite (hs.writeLostCount routed) hs
  | start p => exact execStart_live hs
  | noticeRecordCreate asker =>
    change Answers (execNoticeRecordCreate asker s) _
    unfold execNoticeRecordCreate
    split
    · exact (answers_next _).mpr hs
    · exact (answers_next _).mpr (hs.setLog _)

end

end Sys2Proof.Machine
end

section
/-! PROOF. The part in cold reset (R15 to R17, R139, R152, R164), the invariant there, and the three statements about the
whole invariant. -/
namespace Sys2Proof.Machine

variable {s t : State} {p : Port} {k : RequestKind} {prst : PortSet} {array : Memory} {draws : Nat} {pending : List Instr}

/-! ### The parts of the invariant that O59 and O60 speak of -/

/-- They hold whether NRST is high or low. -/
structure State.BlocksSound (s : State) : Prop where
  coldReset : s.ColdResetSound
  pins : s.PinsSound
  entries : s.EntriesSound
  offers : s.OffersSound
  reservations : s.ReservationsSound
  parking : s.ParkingSound
  sequencer : s.SequencerSound
  clear : s.ClearSound
  items : s.control.items.Sound
  beforeRun : s.BeforeRunSound
  initClear : s.InitClearSound

theorem State.Live.blocksSound (h : s.Live) : s.BlocksSound :=
  { h with coldReset := fun low => nomatch h.high.symm.trans low }

/-- The reset values meet them, whatever the PRST levels, the array and the model's own counter and queue. -/
theorem State.blocksSound_cold : (State.cold prst array draws pending).BlocksSound where
  coldReset _ := rfl
  pins high := nomatch high
  entries := ⟨fun high => (nomatch high), fun e listed => (nomatch listed)⟩
  offers :=
    { room := Nat.zero_le _
      distinct := List.nodup_nil
      offered := fun n => iff_of_false (fun offered => nomatch offered) List.not_mem_nil
      owner := fun o listed => nomatch listed
      parties := fun o listed => nomatch listed }
  reservations :=
    { perPort := fun _ => Nat.zero_le _
      distinct := List.nodup_nil
      inRange := fun e listed => nomatch listed
      active := fun e listed => nomatch listed
      writable := fun e listed => nomatch listed }
  parking := State.parkingSound_iff.mpr fun p => by
    rw [State.port_cold]
    exact PerPort.get_all _ p
  sequencer := .of_idle rfl fun p => by
    rw [State.port_cold]
    exact ⟨rfl, rfl⟩
  clear :=
    { distinct := List.nodup_nil
      exact := fun n => iff_of_false List.not_mem_nil fun listed => nomatch listed.1
      progress := Nat.zero_lt_succ _
      empty := fun _ => rfl }
  items := ConfigItems.sound_defaults
  beforeRun :=
    { quiet := fun _ => ⟨rfl, rfl, rfl, rfl, fun e listed => nomatch listed⟩
      setup := fun setup => nomatch setup
      position := (by decide : 0 < sizeOfCode 0#2) }
  initClear := ⟨fun _ high => (nomatch high), fun setup => (nomatch setup)⟩

/-- Settles O54: the part held in cold reset stands at its reset values, with an empty array. -/
theorem resetMeetsInvariant : Obligations.ResetMeetsInvariant :=
  have blocks : State.reset.BlocksSound :=
    State.blocksSound_cold (prst := .all true) (array := []) (draws := 0) (pending := [])
  { blocks with
    array := Memory.wf_nil
    ports := State.portsSound_coldReset State.reset
    counts := ⟨by decide, by decide, by decide⟩
    log := State.logSound_of_afterColdReset rfl }

/-! ### The commands in cold reset -/

/-- The part stands at its reset values, with some PRST levels, some array and some counter and queue of the model's own. -/
def State.InColdReset (s : State) : Prop := ∃ prst array draws pending, s = .cold prst array draws pending

/-- A port in RESET has no request for a block to take. -/
theorem State.routed_cold : (State.cold prst array draws pending).routed p k = none := by
  rw [State.routed, State.currentAs, State.port_cold]
  rfl

theorem State.isActive_cold : (State.cold prst array draws pending).isActive p = false := by
  rw [State.isActive, State.port_cold]
  rfl

/-- Nobody is a candidate, so the arbiter grants nobody (R105). -/
theorem State.arbiterChoice_cold : (State.cold prst array draws pending).arbiterChoice = none := rfl

/-- A grant command finds nobody chosen. -/
theorem exec_portGrant_cold {i : Instr} (grant : (i, k) ∈ portGrants p) :
    exec i (.cold prst array draws pending) = .next (.cold prst array draws pending) :=
  exec_portGrant_of_not_chosen grant (by simp [State.arbiterChoice_cold])

/-- A command that serves a request finds none. -/
theorem serving_cold {f : Request → Host.Outcome State Fault Refusal} :
    (match (State.cold prst array draws pending).routed p k with
      | none => .next (.cold prst array draws pending)
      | some m => f m : Host.Outcome State Fault Refusal) = .next (.cold prst array draws pending) := by
  rw [State.routed_cold]

/-- A channel of a port in RESET carries nothing (R16, R20). -/
theorem channel_cold {c : Bool} {moved : State} :
    (if (State.cold prst array draws pending).isActive p && c then Host.Outcome.next moved
      else .next (.cold prst array draws pending) : Host.Outcome State Fault Refusal) =
      .next (.cold prst array draws pending) := by
  rw [State.isActive_cold]
  rfl

/-- While NRST is low a command other than a change of a pin finds nothing to do. -/
theorem exec_cold (i : Instr) (low : ∀ msize pen, i ≠ .nrstRises msize pen) :
    Answers (exec i (.cold prst array draws pending)) State.InColdReset := by
  have stands : (State.cold prst array draws pending).InColdReset := ⟨_, _, _, _, rfl⟩
  have nothing {answer : Host.Outcome State Fault Refusal} (same : answer = .next (.cold prst array draws pending)) :
      Answers answer State.InColdReset := by
    rw [same]
    exact (answers_next _).mpr stands
  cases i with
  | nrstRises msize pen => exact absurd rfl (low msize pen)
  | nrstFalls => exact (answers_next _).mpr ⟨_, _, _, _, State.coldReset_eq _⟩
  | prstFalls p | prstRises p => exact (answers_next _).mpr ⟨_, _, _, _, rfl⟩
  | linkUpDelivered p => exact nothing channel_cold
  | requestArrives p w0 w1 w2 => exact nothing (if_neg (by simp [State.isActive_cold]))
  | responseDelivered p => exact nothing (if_neg (by simp [State.isActive_cold]))
  | read p => exact nothing (exec_portGrant_cold (p := p) (k := .read) (by simp [portGrants]))
  | write p => exact nothing (exec_portGrant_cold (p := p) (k := .write) (by simp [portGrants]))
  | mergeWrite p => exact nothing (exec_portGrant_cold (p := p) (k := .mergeWrite) (by simp [portGrants]))
  | lockedRead p => exact nothing (exec_portGrant_cold (p := p) (k := .lockedRead) (by simp [portGrants]))
  | condWrite p => exact nothing (exec_portGrant_cold (p := p) (k := .condWrite) (by simp [portGrants]))
  | refreshGrant | clearGrant | scrubGrant | readingEnds | readOpCompletes | storeCompletes | checkedStoreCompletes
  | mergeCompletes | refreshCompletes | clearCompletes | scrubCompletes | refreshIntervalRunsOut | scrubIntervalRunsOut
  | reservationLifetimeRunsOut | offerLifetimeRunsOut | noticeRecordCreate => exact nothing rfl
  | unlock | claim | grant | revoke | offer | accept | withdraw | release | pageQuery | fetchNotice | ctlRead | ctlWrite
  | lostCount | start => exact nothing serving_cold

theorem exec_cold_blocksSound (i : Instr) : Answers (exec i (.cold prst array draws pending)) State.BlocksSound := by
  by_cases rises : ∃ msize pen, i = .nrstRises msize pen
  · obtain ⟨msize, pen, rfl⟩ := rises
    exact (answers_next _).mpr (State.live_afterRise _ msize pen).blocksSound
  · refine (exec_cold i fun msize pen same => rises ⟨msize, pen, same⟩).mono ?_
    rintro _ ⟨_, _, _, _, rfl⟩
    exact State.blocksSound_cold

/-! ### Every step -/

theorem exec_live_blocksSound (hs : s.Live) (sound : s.ArraySound) (ports : s.PortsSound) (i : Instr) :
    Answers (exec i s) State.BlocksSound := by
  by_cases falls : i = .nrstFalls
  · subst falls
    refine (answers_next _).mpr ?_
    rw [State.coldReset_eq]
    exact State.blocksSound_cold
  · exact (exec_live hs sound ports i falls).mono fun _ => State.Live.blocksSound

theorem State.changesOnly_withPending (s : State) (rest : List Instr) : s.ChangesOnly (s.withPending rest) [.pending] := by
  intro b hb
  cases b <;> first | rfl | exact absurd (by simp) hb

theorem step_blocksSound (hs : s.Inv) : Answers (step s) State.BlocksSound := by
  unfold step
  split
  · exact (answers_next _).mpr { hs with }
  next i rest _ =>
    cases high : s.pins.nrst with
    | true =>
      exact exec_live_blocksSound ((hs.live high).of_frame (s.changesOnly_withPending rest) (by decide)) hs.array
        (hs.ports.of_blocks rfl rfl rfl) i
    | false =>
      rw [hs.coldReset.eq_cold high]
      exact exec_cold_blocksSound i

/-- Settles O59: with NRST high command by command, and in cold reset from the reset values. -/
theorem agreementsStaySound : Obligations.AgreementsStaySound := fun _ t hs ht =>
  have sound := step_blocksSound hs t ht
  ⟨sound.entries, sound.offers, sound.reservations, sound.parking⟩

/-- Settles O60 from the same case split. -/
theorem enginesStaySound : Obligations.EnginesStaySound := fun _ t hs ht =>
  have sound := step_blocksSound hs t ht
  ⟨sound.sequencer, sound.clear, sound.beforeRun, sound.initClear, sound.items, sound.pins, sound.coldReset⟩

end Sys2Proof.Machine
end
